-- ==== Sys2Proof/Word.lean ====
section
/-! DEFINITION. The two word types of the engine: a byte (R7) and the 16-bit pattern of a register, an
address, a quantity or a checksum (R10, R90). -/

namespace Sys2Proof

/-- A byte is 8 bits (R7). -/
abbrev Byte := BitVec 8

/-- A 16-bit pattern: `ADDR`, `QTY`, `VALUE`, a register element, the checksum (R10, R12, R90). -/
abbrev Word := BitVec 16

end Sys2Proof
end

