-- ==== Sys2Proof/Config.lean ====
section
/-! DEFINITION. What one instance of the engine fixes (R6, R21), the constants every rule uses (R6), and
the free values for what the spec leaves open (U2, U3 of `93_implementation_defined.md`). -/

namespace Sys2Proof

/-- `CFG.PARITY` (R6). -/
inductive Parity
  | none
  | even
  | odd
deriving DecidableEq, Repr

/-- The configuration record CFG with the two OPEN capacities `RX_CAP` and `WMC_QTY_MAX` (R6, R21).
It is given at construction and nothing writes it afterwards. -/
structure Cfg where
  baud : Nat
  dataBits : Nat
  parity : Parity
  stopBits : Nat
  dePresent : Bool
  tPollMs : Nat
  tIdleMs : Nat
  tRespMs : Nat
  rxCap : Nat
  wmcQtyMax : Nat
deriving DecidableEq, Repr

/-- The default record of R6. `dePresent := true` is the value `95_test_vectors.md` uses for an OPEN
parameter: DESIGN CHOICE, log 4. -/
def Cfg.default : Cfg where
  baud := 9600
  dataBits := 8
  parity := .none
  stopBits := 2
  dePresent := true
  tPollMs := 20
  tIdleMs := 40
  tRespMs := 2000
  rxCap := 260
  wmcQtyMax := 1968

/-- Capacity of TXBUF in bytes (R6, R40). -/
def txCap : Nat := 256

/-- Number of elements of WREG (R12, R40), the largest `write_multiple_registers` quantity (R108). -/
def wregCap : Nat := 123

/-- Number of elements of RBITS (R13, R40), the largest bit-read quantity (R101, R102). -/
def rbitsCap : Nat := 2000

/-- Number of elements of RREGS (R13, R40), the largest register-read quantity (R103, R104). -/
def rregsCap : Nat := 125

/-- The largest setting of `WMC_QTY_MAX` (R6, D10). -/
def wmcCeiling : Nat := 1968

/-- `CRC_LEN` (R6). -/
def crcLen : Nat := 2

/-- `ERR_FRAME_LEN` (R6, R70). -/
def errFrameLen : Nat := 5

/-- `FIXED_RSP_LEN` (R6, R68). -/
def fixedRspLen : Nat := 8

/-- `ERR_BIAS`, the marker an exception response adds to the function code (R6, R70). -/
def errBias : Nat := 0x80

/-- The free values: what a host read returns where the spec says any value (R13, R182, U2, U3). It has
no body, so a statement about such a read holds for every value. DESIGN CHOICE of form, log 13. -/
opaque Config.freeValue : Nat → Word

/-- Whether the host reads an RREGS element that holds no result as signed: R13 ties the sign to a transaction's `SIGNED` and
gives such an element no value at all, so this is free too. DESIGN CHOICE of form, log 31. -/
opaque Config.freeSigned : Nat → Bool

/-- A place of the host's side: `x[n]` (R10), `WCOIL[k]` or `WREG[k]` (R12). -/
inductive Place
  | operand (n : Nat)
  | coil (k : Nat)
  | reg (k : Nat)
deriving DecidableEq, Repr

/-- What a place that nothing has written since the given reset holds: R36 gives no value. DESIGN CHOICE, log 33:
any value, where R212 has a model refuse the run. -/
opaque Config.freeContent : Nat → Place → Word

end Sys2Proof
end

