-- ==== Sys2Proof/Machine/Bytes.lean ====
section
/-! DEFINITION. Bytes, byte order and integer readings: the notation of R7 and R8 as functions. -/

namespace Sys2Proof

/-- `hi8(v) = v[15:8]` (R7). -/
def hi8 (v : Word) : Byte := v.extractLsb' 8 8

/-- `lo8(v) = v[7:0]` (R7). -/
def lo8 (v : Word) : Byte := v.extractLsb' 0 8

/-- The 16-bit value with high byte `h` and low byte `l`. -/
def ofHiLo (h l : Byte) : Word := h ++ l

/-- `be16(v)`: the big-endian form, the byte order of every field of a PDU (R7, R42). -/
def be16 (v : Word) : List Byte := [hi8 v, lo8 v]

/-- `le16(v)`: the little-endian form, the byte order of the CRC field only (R7, R43). -/
def le16 (v : Word) : List Byte := [lo8 v, hi8 v]

/-- `s[i]`: the byte at offset `i` (R7). Every rule bounds the offset first (R40). -/
def byteAt (s : List Byte) (i : Nat) : Byte := s.getD i 0#8

/-- `u16be(s, i) = s[i] * 256 + s[i+1]` as a 16-bit pattern (R7). -/
def u16be (s : List Byte) (i : Nat) : Word := ofHiLo (byteAt s i) (byteAt s (i + 1))

/-- `ceil_div(a, b)`: the least integer not below `a / b` (R7). -/
def ceilDiv (a b : Nat) : Nat := (a + b - 1) / b

/-- `sext_16(v)`: the signed integer of a 16-bit pattern (R8). -/
def sext16 (v : Word) : Int := if v.toNat < 0x8000 then v.toNat else (v.toNat : Int) - 0x10000

/-- `zext_16(v)`: the unsigned integer of a 16-bit pattern (R8). -/
def zext16 (v : Word) : Int := v.toNat

end Sys2Proof
end

