-- ==== Sys2Proof/Machine/Timing.lean ====
section
/-! DEFINITION. The time quantities derived from CFG (R136, R140) and the constraints CFG must meet
(R6, R212, U14). -/

namespace Sys2Proof

/-- Bit times of one character: start bit, data bits, parity bit if any, stop bits (R140). -/
def Cfg.charBits (c : Cfg) : Nat :=
  1 + c.dataBits + (if c.parity = .none then 0 else 1) + c.stopBits

/-- `T_CHAR_MS = ceil_div(1000 * B, CFG.BAUD)` (R6, R140). -/
def Cfg.tCharMs (c : Cfg) : Nat := ceilDiv (1000 * c.charBits) c.baud

/-- `T_IDLE = max(CFG.T_IDLE_MS, T_CHAR_MS)`: the per-character time is the floor (R136). -/
def Cfg.tIdle (c : Cfg) : Nat := max c.tIdleMs c.tCharMs

/-- The constraints of R6 and R212 on the fields of CFG; a record outside them is refused (U14). -/
def Cfg.valid (c : Cfg) : Bool :=
  decide (0 < c.baud) && decide (1 ≤ c.tPollMs) && decide (1 ≤ c.tRespMs) && decide (260 ≤ c.rxCap) &&
    decide (1 ≤ c.wmcQtyMax) && decide (c.wmcQtyMax ≤ wmcCeiling)

end Sys2Proof
end

