-- ==== Sys2Proof/Machine/State.lean ====
section
/-! DEFINITION. The state of the engine, of its ports and of the agents' pending turns, as plain data, and the
state after reset (`10_state.md`). -/

namespace Sys2Proof.Machine

open Sys2Proof

/-- The operand registers `x[0..5]` (R10). -/
structure Operands where
  fc : Byte
  slave : Byte
  addr : Word
  qty : Word
  value : Word
  signed : Bool
deriving DecidableEq, Repr

/-- What the host has written since reset (R212): each operand register, and the elements of the write-data windows as lists of
offset and `true` in the canonical form of `Machine/Ops.lean`. -/
structure Written where
  fc : Bool
  slave : Bool
  addr : Bool
  qty : Bool
  value : Bool
  signed : Bool
  wcoil : List (Nat × Bool)
  wreg : List (Nat × Bool)
deriving DecidableEq, Repr

/-- `TXN`, the latched transaction record (R32). -/
structure Txn where
  fc : Byte
  slave : Byte
  addr : Word
  qty : Word
  value : Word
  signed : Bool
  counted : Bool
deriving DecidableEq, Repr

/-- Which step of `Sending` is next (R131 to R134). `build` holds the PDU that GO encoded (R171). -/
inductive SendStep
  /-- Build the ADU into TXBUF (R131). -/
  | build (pdu : List Byte)
  /-- `SER.flush_rx()` (R132). -/
  | drain
  /-- `DE <- 1` (R133). -/
  | assertDe
  /-- `SER.write` of the whole ADU (R133, R134). -/
  | write
  /-- The wait for `SER.tx_done = 1` (R133, R135). -/
  | awaitDone
  /-- `DE <- 0` (R133). -/
  | releaseDe
deriving DecidableEq, Repr

/-- Which step of `AwaitingResponse` is next (R136, R137). -/
inductive RecvStep
  /-- Entry to the receive loop (R136). -/
  | enter
  /-- `t <- NOW`, the start of an iteration (R137). -/
  | readNow
  /-- The rest of the iteration, with its local `t` (R137). -/
  | poll (t : Nat)
  /-- `wait(CFG.T_POLL_MS)`: it may end once `NOW` has reached `wake` (R8, R137). -/
  | pause (wake : Nat)
deriving DecidableEq, Repr

/-- Which step of `Validating` is next (R172). `decode` holds the payload the validator returned. -/
inductive ValStep
  /-- The validator (R169). -/
  | check
  /-- The decode rule of the operation (R113 to R116). -/
  | decode (payload : List Byte)
deriving DecidableEq, Repr

/-- `STATE`, the program-counter analogue (R14), with the place inside its phase (log 6, log 7). -/
inductive Seq
  | idle
  | sending (k : SendStep)
  | awaitingResponse (k : RecvStep)
  | validating (k : ValStep)
  | completed
  | failed
deriving DecidableEq, Repr

/-- The contents `R_ERR` can hold (R17). -/
inductive ErrCode
  | none
  | invalidParameter
  | noResponse
  | crcMismatch
  | addressMismatch
  | slaveException
  | unexpectedLength
deriving DecidableEq, Repr

/-- The errors an operation can raise (R190); a slave exception carries the slave's code (R195). -/
inductive Err
  | invalidParameter
  | noResponse
  | crcMismatch
  | addressMismatch
  | slaveException (code : Byte)
  | unexpectedLength
deriving DecidableEq, Repr

/-- What the engine does at its ports, the events of a run (R184). -/
inductive PortEvent
  | flushRx
  | de (level : Bool)
  | write (bytes : List Byte)
  | read (bytes : List Byte)
deriving DecidableEq, Repr

/-- The data windows of the host interface (R12, R13, R40). -/
inductive Window
  | wcoil
  | wreg
  | rbits
  | rregs
deriving DecidableEq, Repr

/-- What the host can do (R34). The data path is 16 bits wide; narrower elements take the low bits (log 16). -/
inductive HostAct
  | writeReg (reg : Nat) (v : Word)
  | readReg (reg : Nat)
  | writeElem (w : Window) (i : Nat) (v : Word)
  | readElem (w : Window) (i : Nat)
deriving DecidableEq, Repr

/-- What the environment can do (R34). -/
inductive EnvAct
  /-- Append bytes to the tail of `SER.RXQ` (R22). -/
  | receive (bytes : List Byte)
  /-- Set `SER.tx_done` to 1 (R25). -/
  | txDone
  /-- Let `ms` milliseconds of `NOW` pass (R27). -/
  | pass (ms : Nat)
deriving DecidableEq, Repr

/-- What the bootstrap layer can do (R210, R212). -/
inductive BootAct
  /-- Create the instance with a configuration record (R210). -/
  | construct (cfg : Cfg)
  /-- Re-create the instance with the record it has (R36, R210). -/
  | reset
deriving DecidableEq, Repr

/-- One turn of one agent (R34). -/
inductive Turn
  | engine
  | host (a : HostAct)
  | env (a : EnvAct)
  | boot (a : BootAct)
deriving DecidableEq, Repr

/-- The state. Fields up to `de` are the engine's, `rxq` to `now` belong to the environment at the port, the rest
are the model's own. Buffers are lists of offset and element in canonical form (`Machine/Ops.lean`). -/
structure State where
  /-- CFG (R21). -/
  cfg : Cfg
  /-- `x[0..5]` (R10). -/
  x : Operands
  /-- WCOIL (R12). -/
  wcoil : List (Nat × Bool)
  /-- WREG (R12). -/
  wreg : List (Nat × Word)
  /-- What the host has written since reset, implied by R36 and R212 (log 33). -/
  written : Written
  /-- RBITS (R13). -/
  rbits : List (Nat × Bool)
  /-- RREGS (R13). -/
  rregs : List (Nat × Word)
  /-- STATE (R14). -/
  seq : Seq
  /-- TXN (R32). -/
  txn : Txn
  /-- R_ERR (R17). -/
  rErr : ErrCode
  /-- R_EXC (R18). -/
  rExc : Byte
  /-- R_ACK (R19). -/
  rAck : Bool
  /-- R_COUNT (R20). -/
  rCount : Word
  /-- TXBUF (R28). -/
  txbuf : List Host.Cell
  /-- TXLEN (R28). -/
  txlen : Nat
  /-- RXBUF (R29). -/
  rxbuf : List Host.Cell
  /-- RXLEN (R29). -/
  rxlen : Nat
  /-- T_START (R30). -/
  tStart : Nat
  /-- T_LAST (R30). -/
  tLast : Nat
  /-- CRC, the accumulator of CRCU (R31, R90). -/
  crc : Word
  /-- DE (R26). -/
  de : Bool
  /-- SER.RXQ, head first (R22). -/
  rxq : List Byte
  /-- SER.tx_done (R25). -/
  txDone : Bool
  /-- NOW (R27). -/
  now : Nat
  /-- The port events of the run, oldest first (R184). -/
  events : List PortEvent
  /-- The turns still to be taken, oldest first (log 5). -/
  agenda : List Turn
  /-- What the host interface returned to the last host read (R13, log 13). -/
  hostData : Int
  /-- How many free values have been handed out (log 13). -/
  freeCount : Nat
  /-- How many resets there have been: what a place holds that nothing has written since is free anew after each (log 33). -/
  resets : Nat
deriving DecidableEq, Repr

/-- Why the machine stops with a fault. The engine itself never does: "none crash the process" (R190). -/
inductive Fault
  /-- The host addressed an element outside a window (R40). Raised by the host's element accesses; safe: the spec
  gives such an access no effect (log 15). -/
  | noSuchElement (w : Window) (i : Nat)
deriving DecidableEq, Repr

/-- Why the model gives no meaning. -/
inductive Refusal
  /-- An instruction without a meaning; no arm of `exec` uses it. -/
  | notModelled (mnemonic : String)
  /-- A register number other than 0 to 5 and 8 to 13 (U13: "do not exist: refuse"). Raised by the host's register
  accesses; safe. -/
  | noSuchRegister (reg : Nat)
  /-- A configuration record outside its constraints (U14: "the model's constructor rejects them"). Raised by
  `BootAct.construct`; safe. -/
  | badConfig
deriving DecidableEq, Repr

/-- Operand registers at reset: unspecified by R36, zero here (DESIGN CHOICE, log 1, unsafe); read through `State.operands`. -/
def Operands.reset : Operands where
  fc := 0#8
  slave := 0#8
  addr := 0#16
  qty := 0#16
  value := 0#16
  signed := false

/-- Nothing has been written since reset (R212). -/
def Written.none : Written where
  fc := false
  slave := false
  addr := false
  qty := false
  value := false
  signed := false
  wcoil := []
  wreg := []

/-- TXN at reset: unspecified by R36, zero here (DESIGN CHOICE, log 1, unsafe). -/
def Txn.reset : Txn where
  fc := 0#8
  slave := 0#8
  addr := 0#16
  qty := 0#16
  value := 0#16
  signed := false
  counted := false

/-- The machine right after reset (R36, R210), with the default configuration (log 4), an empty `SER.RXQ`, `NOW` 0
(log 3), nothing listed in any buffer (log 2) and no turn pending. -/
def State.reset : State where
  cfg := Cfg.default
  x := Operands.reset
  wcoil := []
  wreg := []
  written := Written.none
  rbits := []
  rregs := []
  seq := .idle
  txn := Txn.reset
  rErr := .none
  rExc := 0#8
  rAck := false
  rCount := 0#16
  txbuf := []
  txlen := 0
  rxbuf := []
  rxlen := 0
  tStart := 0
  tLast := 0
  crc := 0#16
  de := false
  rxq := []
  txDone := true
  now := 0
  events := []
  agenda := []
  hostData := 0
  freeCount := 0
  resets := 0

end Sys2Proof.Machine
end

