-- ==== Sys2Proof/Machine/Ops.lean ====
section
/-! DEFINITION. The named operations over buffers, the serial port, the direction output and the CRC unit, and
the entry of an error (`raise`, the engine's trap entry) with the return from it. -/

namespace Sys2Proof.Machine

open Sys2Proof

/-! ## Buffers (R40)

A buffer is a list of offset and element, offsets strictly rising, no element equal to what an unlisted
offset reads as. -/

/-- What an element that nothing has written reads as: 0 (DESIGN CHOICE, log 2, unsafe). -/
abbrev Memory.unlisted (α : Type) [Inhabited α] : α := default

/-- `MemRead(B+i, 1)` (R8, R40). -/
def Memory.read {α : Type} [Inhabited α] : List (Nat × α) → Nat → α
  | [], _ => Memory.unlisted α
  | (a, v) :: m, i => if a = i then v else Memory.read m i

/-- `MemWrite(B+i, 1, v)` (R8, R40), keeping the canonical form. -/
def Memory.write {α : Type} [Inhabited α] [DecidableEq α] (i : Nat) (v : α) : List (Nat × α) → List (Nat × α)
  | [] => if v = Memory.unlisted α then [] else [(i, v)]
  | (a, w) :: m =>
    if i < a then (if v = Memory.unlisted α then (a, w) :: m else (i, v) :: (a, w) :: m)
    else if i = a then (if v = Memory.unlisted α then m else (i, v) :: m)
    else (a, w) :: Memory.write i v m

/-- `MemRead(B+o, n)` (R8). -/
def Memory.readList {α : Type} [Inhabited α] (o n : Nat) (m : List (Nat × α)) : List α :=
  (List.range n).map fun j => Memory.read m (o + j)

/-- `MemWrite(B+o, n, vs)` with `n = |vs|` (R8). -/
def Memory.writeList {α : Type} [Inhabited α] [DecidableEq α] : Nat → List α → List (Nat × α) → List (Nat × α)
  | _, [], m => m
  | o, v :: vs, m => Memory.writeList (o + 1) vs (Memory.write o v m)

/-- The canonical form for a buffer whose offsets are at least `lo`. -/
def Memory.wfFrom {α : Type} [Inhabited α] [DecidableEq α] : Nat → List (Nat × α) → Bool
  | _, [] => true
  | lo, (a, v) :: m => decide (lo ≤ a) && decide (v ≠ Memory.unlisted α) && Memory.wfFrom (a + 1) m

/-- The canonical form: offsets strictly rising, no element equal to what an unlisted offset reads as. -/
def Memory.wf {α : Type} [Inhabited α] [DecidableEq α] (m : List (Nat × α)) : Bool := Memory.wfFrom 0 m

/-- Every listed offset is inside an array of `cap` elements (R40). -/
def Memory.within {α : Type} (cap : Nat) (m : List (Nat × α)) : Bool := m.all fun c => decide (c.1 < cap)

/-! ## The sequencer -/

/-- `pc <- k` (R8, R14). -/
def State.goto (k : Seq) (s : State) : State := { s with seq := k }

/-! ## The CRC unit's micro-operations (R90, R91, R94) -/

/-- `CRC_INIT` (R90). -/
def State.crcInit (s : State) : State := { s with crc := Sys2Proof.crcInit }

/-- `CRC_UPDATE(b)` (R91). -/
def State.crcUpdate (s : State) (b : Byte) : State := { s with crc := Sys2Proof.crcUpdate s.crc b }

/-- `CRC_READ` (R94). -/
def State.crcRead (s : State) : List Byte := le16 s.crc

/-- A whole checksum computation over `m`: `CRC_INIT`, then one `CRC_UPDATE` a byte (R95). -/
def State.crcRun (m : List Byte) (s : State) : State := m.foldl State.crcUpdate s.crcInit

/-! ## The serial port and the direction output (R22 to R26) -/

/-- `SER.flush_rx()` (R23). -/
def State.serFlush (s : State) : State := { s with rxq := [], events := s.events ++ [.flushRx] }

/-- `SER.any()` (R23). -/
def State.serAny (s : State) : Nat := s.rxq.length

/-- What `SER.read(k)` returns (R23). -/
def State.serPeek (k : Nat) (s : State) : List Byte := s.rxq.take k

/-- What `SER.read(k)` does to the port (R23). -/
def State.serDrop (k : Nat) (s : State) : State :=
  { s with rxq := s.rxq.drop k, events := s.events ++ [.read (s.rxq.take k)] }

/-- `SER.write(bs)` (R24). -/
def State.serWrite (bs : List Byte) (s : State) : State :=
  { s with txDone := false, events := s.events ++ [.write bs] }

/-- `DE <- level`; skipped when there is no such output (R26). -/
def State.driveDe (level : Bool) (s : State) : State :=
  if s.cfg.dePresent then { s with de := level, events := s.events ++ [.de level] } else s

/-! ## TXBUF and RXBUF (R28, R29) -/

/-- The ADU in TXBUF: `TXBUF[0 .. TXLEN-1]` (R28). -/
def State.txBytes (s : State) : List Byte := Memory.readList 0 s.txlen s.txbuf

/-- Put an ADU into TXBUF (R131). -/
def State.txStore (bs : List Byte) (s : State) : State :=
  { s with txbuf := Memory.writeList 0 bs s.txbuf, txlen := bs.length }

/-- The received bytes: `RXBUF[0 .. RXLEN-1]` (R29). -/
def State.rxBytes (s : State) : List Byte := Memory.readList 0 s.rxlen s.rxbuf

/-- Append to RXBUF at a poll whose time reading is `t` (R137). -/
def State.rxAppend (bs : List Byte) (t : Nat) (s : State) : State :=
  { s with rxbuf := Memory.writeList s.rxlen bs s.rxbuf, rxlen := s.rxlen + bs.length, tLast := t }

/-! ## Errors: entry and return (R196, R200) -/

/-- `code(E)` as a content of `R_ERR` (R190). -/
def Err.code : Err → ErrCode
  | .invalidParameter => .invalidParameter
  | .noResponse => .noResponse
  | .crcMismatch => .crcMismatch
  | .addressMismatch => .addressMismatch
  | .slaveException _ => .slaveException
  | .unexpectedLength => .unexpectedLength

/-- What `raise` puts into `R_EXC` (R196). -/
def Err.info : Err → Byte
  | .slaveException code => code
  | _ => 0#8

/-- `raise E(info)`: the entry of an error (R8, R196). Nothing is saved. -/
def State.raise (e : Err) (s : State) : State :=
  { s with rErr := e.code, rExc := e.info, rAck := false, rCount := 0#16, seq := .failed }

/-- The results of the previous transaction are withdrawn, the first step of every GO and all there is of a return
from an error (R171, R200). -/
def State.clearResults (s : State) : State :=
  { s with rErr := .none, rExc := 0#8, rAck := false, rCount := 0#16 }

/-! ## Reset (R210, R211) -/

/-- Re-create the engine with record `cfg`: engine state as R36 has it, `SER.tx_done` 1; `SER.RXQ`, `NOW` and the model's
own `agenda`, `hostData` and `freeCount` stay (log 20), `resets` counts one more (log 33). -/
def State.resetEngine (cfg : Cfg) (s : State) : State :=
  { State.reset with
    cfg := cfg
    rxq := s.rxq
    now := s.now
    agenda := s.agenda
    hostData := s.hostData
    freeCount := s.freeCount
    resets := s.resets + 1 }

end Sys2Proof.Machine
end

