-- ==== Sys2Proof/Machine/Flags.lean ====
section
/-! DEFINITION. STATUS and its flags (R14, R16), the numeric codes (D17), and the writes of the result registers on a
success path (R113 to R116). -/

namespace Sys2Proof.Machine

open Sys2Proof

/-- The number of a phase, `STATUS[2:0]` (R14). -/
def Seq.code : Seq → Nat
  | .idle => 0
  | .sending _ => 1
  | .awaitingResponse _ => 2
  | .validating _ => 3
  | .completed => 4
  | .failed => 5

/-- `BUSY` (R16). -/
def Seq.busy : Seq → Bool
  | .sending _ => true
  | .awaitingResponse _ => true
  | .validating _ => true
  | _ => false

/-- `DONE` (R16). -/
def Seq.done : Seq → Bool
  | .completed => true
  | .failed => true
  | _ => false

/-- `BUSY` of a state (R16). -/
abbrev State.busy (s : State) : Bool := s.seq.busy

/-- `DONE` of a state (R16). -/
abbrev State.done (s : State) : Bool := s.seq.done

/-- STATUS: STATE in bits 2 to 0, BUSY in bit 3, DONE in bit 4, the rest 0 (R16). -/
def State.status (s : State) : Byte :=
  BitVec.ofNat 8 (s.seq.code + 8 * s.seq.busy.toNat + 16 * s.seq.done.toNat)

/-- The number of a content of `R_ERR` (R17). -/
def ErrCode.number : ErrCode → Nat
  | .none => 0
  | .invalidParameter => 1
  | .noResponse => 2
  | .crcMismatch => 3
  | .addressMismatch => 4
  | .slaveException => 5
  | .unexpectedLength => 6

/-- The end of a bit read: RBITS from element 0, `R_COUNT`, `Completed` (R113, R172). -/
def State.completeBits (bits : List Bool) (count : Word) (s : State) : State :=
  { s with rbits := Memory.writeList 0 bits s.rbits, rCount := count, seq := .completed }

/-- The end of a register read: RREGS from element 0, `R_COUNT`, `Completed` (R114, R172). -/
def State.completeRegs (regs : List Word) (count : Word) (s : State) : State :=
  { s with rregs := Memory.writeList 0 regs s.rregs, rCount := count, seq := .completed }

/-- The end of a write: `R_ACK`, `Completed` (R115, R116, R172). -/
def State.completeAck (ack : Bool) (s : State) : State := { s with rAck := ack, seq := .completed }

end Sys2Proof.Machine
end

