-- ==== Sys2Proof/Machine/Validator.lean ====
section
/-! DEFINITION. The response validator VALID (R160 to R169) and the completion predicate of the receive loop (R141). -/

namespace Sys2Proof.Machine

open Sys2Proof

/-- `complete(b)` (R141). -/
def complete (b : List Byte) : Bool :=
  if b.length < 2 then false
  else if (byteAt b 1).getLsbD 7 then decide (errFrameLen ≤ b.length)
  else if 0x01 ≤ (byteAt b 1).toNat ∧ (byteAt b 1).toNat ≤ 0x04 then
    if b.length < 3 then false else decide (3 + (byteAt b 2).toNat + crcLen ≤ b.length)
  else decide (fixedRspLen ≤ b.length)

/-- The received checksum, little-endian from the last two bytes (R163). -/
def receivedCrc (b : List Byte) : Nat :=
  (byteAt b (b.length - 2)).toNat + 256 * (byteAt b (b.length - 1)).toNat

/-- `validate(b, n)` with `n = |b|` (R169): the payload, or the first error. -/
def validate (b : List Byte) (txn : Txn) : Except Err (List Byte) :=
  if b.length = 0 then .error .noResponse
  else if b.length < 4 then .error .unexpectedLength
  else if (crc16 (b.take (b.length - 2))).toNat ≠ receivedCrc b then .error .crcMismatch
  else if byteAt b 0 ≠ txn.slave then .error .addressMismatch
  else if (byteAt b 1).toNat = txn.fc.toNat + errBias then
    if b.length < errFrameLen then .error .unexpectedLength else .error (.slaveException (byteAt b 2))
  else if txn.counted then
    if b.length < 5 then .error .unexpectedLength
    else if (byteAt b 2).toNat ≠ b.length - 5 then .error .unexpectedLength
    else .ok ((b.drop 3).take (b.length - 5))
  else if b.length ≠ fixedRspLen then .error .unexpectedLength
  else .ok ((b.drop 2).take 4)

/-- The CRC unit after the validator has run: a computation happens from 4 bytes on (R162, R163). -/
def State.checkCrc (b : List Byte) (s : State) : State :=
  if b.length < 4 then s else s.crcRun (b.take (b.length - 2))

/-- The `check` step of `Validating`: the validator on RXBUF (R172). -/
def checkStep (s : State) : State :=
  match validate s.rxBytes s.txn with
  | .error e => (s.checkCrc s.rxBytes).raise e
  | .ok payload => (s.checkCrc s.rxBytes).goto (.validating (.decode payload))

end Sys2Proof.Machine
end

