-- ==== Sys2Proof/Machine/Framer.lean ====
section
/-! DEFINITION. The transport FRAMER: sending (R131 to R135) and the receive loop (R136 to R139), one access to the
ports or to `NOW` a step (R50). -/

namespace Sys2Proof.Machine

open Sys2Proof

/-- Build the ADU into TXBUF (R131). -/
def buildAdu (pdu : List Byte) (s : State) : State :=
  let s' := s.crcRun (s.txn.slave :: pdu)
  (s'.txStore ((s.txn.slave :: pdu) ++ s'.crcRead)).goto (.sending .drain)

/-- One step of `Sending` (R131 to R134). Without a direction output the assert, the wait and the release are absent. -/
def sendStep (k : SendStep) (s : State) : State :=
  match k with
  | .build pdu => buildAdu pdu s
  | .drain => s.serFlush.goto (.sending (if s.cfg.dePresent then .assertDe else .write))
  | .assertDe => (s.driveDe true).goto (.sending .write)
  | .write =>
    (s.serWrite s.txBytes).goto (if s.cfg.dePresent then .sending .awaitDone else .awaitingResponse .enter)
  | .awaitDone => if s.txDone then s.goto (.sending .releaseDe) else s
  | .releaseDe => (s.driveDe false).goto (.awaitingResponse .enter)

/-- Entry to the receive loop (R136). -/
def enterLoop (s : State) : State :=
  { s with rxlen := 0, tStart := s.now, tLast := s.now, seq := .awaitingResponse .readNow }

/-- The end of an iteration that found no earlier exit: the overall bound, else `wait(CFG.T_POLL_MS)` (R137, R138). -/
def closePoll (t : Nat) (s : State) : State :=
  if s.tStart + s.cfg.tRespMs ≤ t then s.goto (.validating .check)
  else s.goto (.awaitingResponse (.pause (s.now + s.cfg.tPollMs)))

/-- How many bytes a poll takes: `min(n, RX_CAP - RXLEN)` (R137). -/
def State.pollTake (s : State) : Nat := min s.serAny (s.cfg.rxCap - s.rxlen)

/-- The bytes of a poll that found some: read them and append them to RXBUF (R137). -/
def State.pollAppend (t : Nat) (s : State) : State :=
  (s.serDrop s.pollTake).rxAppend (s.serPeek s.pollTake) t

/-- An iteration of the receive loop after `t <- NOW` (R137). -/
def pollStep (t : Nat) (s : State) : State :=
  if s.serAny = 0 then
    if 0 < s.rxlen ∧ s.tLast + s.cfg.tIdle ≤ t then s.goto (.validating .check) else closePoll t s
  else if complete (s.pollAppend t).rxBytes ∨ (s.pollAppend t).rxlen = s.cfg.rxCap then
    (s.pollAppend t).goto (.validating .check)
  else closePoll t (s.pollAppend t)

/-- One step of `AwaitingResponse` (R136, R137). -/
def recvStep (k : RecvStep) (s : State) : State :=
  match k with
  | .enter => enterLoop s
  | .readNow => s.goto (.awaitingResponse (.poll s.now))
  | .poll t => pollStep t s
  | .pause wake => if wake ≤ s.now then s.goto (.awaitingResponse .readNow) else s

end Sys2Proof.Machine
end

