-- ==== Sys2Proof/Machine/Codec.lean ====
section
/-! DEFINITION. The codec's helper functions: packing and unpacking of bits and registers
(R44, R109, R110, R112, R114). -/

namespace Sys2Proof

/-- Byte `j` of `pack_bits(b)`: bit `k` is `b[8j+k]`, and 0 past the end (R109). -/
def packByte (b : List Bool) (j : Nat) : Byte := BitVec.ofFnLE (n := 8) fun k => b.getD (8 * j + k.val) false

/-- `pack_bits(b)` (R109). -/
def packBits (b : List Bool) : List Byte := (List.range (ceilDiv b.length 8)).map (packByte b)

/-- `unpack_bits(p, q)`: element `i` is bit `i mod 8` of byte `i div 8` (R112). -/
def unpackBits (p : List Byte) (q : Nat) : List Bool :=
  (List.range q).map fun i => (byteAt p (i / 8)).getLsbD (i % 8)

/-- `pack_regs(v)`: each 16-bit pattern big-endian, element 0 first (R110). -/
def packRegs (v : List Word) : List Byte := v.flatMap be16

/-- The registers of a payload: element `i` is `u16be` at offset `2*i` (R67, R114). -/
def unpackRegs (p : List Byte) (q : Nat) : List Word := (List.range q).map fun i => u16be p (2 * i)

end Sys2Proof
end

