-- ==== Sys2Proof/Syntax.lean ====
section
/-! DEFINITION. The eight operations of the engine, one constructor per row of spec/opcode_table.json
(R3, R61). The operands are the fields of the row's request frame. -/

namespace Sys2Proof

/-- One Master-API operation (R173 to R180). A list of values stands for the data field of a
multiple write, and its length for the quantity, as in the call syntax of R75. `SIGNED` is no field of any
frame (R103): the meaning latches it from `x[5]` (log 10). -/
inductive Instr
  /-- `0x01` (R173). -/
  | readCoils (slave : Byte) (addr qty : Word)
  /-- `0x02` (R174). -/
  | readDiscreteInputs (slave : Byte) (addr qty : Word)
  /-- `0x03` (R175). -/
  | readHoldingRegisters (slave : Byte) (addr qty : Word)
  /-- `0x04` (R176). -/
  | readInputRegisters (slave : Byte) (addr qty : Word)
  /-- `0x05` (R177). -/
  | writeSingleCoil (slave : Byte) (addr value : Word)
  /-- `0x06` (R178). -/
  | writeSingleRegister (slave : Byte) (addr value : Word)
  /-- `0x0F` (R179). -/
  | writeMultipleCoils (slave : Byte) (addr : Word) (values : List Bool)
  /-- `0x10` (R180). -/
  | writeMultipleRegisters (slave : Byte) (addr : Word) (values : List Word)
deriving DecidableEq, Repr

/-- The function code of an operation, byte 1 of its request (R61). -/
def Instr.functionCode : Instr → Byte
  | .readCoils _ _ _ => 0x01#8
  | .readDiscreteInputs _ _ _ => 0x02#8
  | .readHoldingRegisters _ _ _ => 0x03#8
  | .readInputRegisters _ _ _ => 0x04#8
  | .writeSingleCoil _ _ _ => 0x05#8
  | .writeSingleRegister _ _ _ => 0x06#8
  | .writeMultipleCoils _ _ _ => 0x0F#8
  | .writeMultipleRegisters _ _ _ => 0x10#8

end Sys2Proof
end

