-- ==== Sys2Proof/Decode.lean ====
section
/-! DEFINITION. The encodings: from operand registers to an operation (R61, R74), from the bytes of a request
frame to an operation (R60 to R64, opcode_table.json), the encoder, and the layouts of the response
frames (R66 to R70). -/

namespace Sys2Proof

/-- Why a byte sequence is no request frame. -/
inductive DecodeError
  /-- Bytes are missing before the frame's own end. -/
  | truncated
  /-- Byte 1 is none of the eight codes (R61, R72). -/
  | unknownFunction (fc : Byte)
  /-- The byte count is not the one the quantity implies (R63, R64). -/
  | byteCountMismatch
  /-- A padding bit of the last data byte is not 0 (R63, R109). -/
  | nonzeroPadding
  /-- The last two bytes are not the checksum of the rest (R60). -/
  | crcMismatch
deriving DecidableEq, Repr

/-- The operation that the operand registers describe, with the first `QTY` elements of the write-data
windows (R61, R74); none for a code outside the eight (R72). -/
def decodeCommand (fc slave : Byte) (addr qty value : Word) (coils : List Bool) (regs : List Word) : Option Instr :=
  match fc.toNat with
  | 0x01 => some (.readCoils slave addr qty)
  | 0x02 => some (.readDiscreteInputs slave addr qty)
  | 0x03 => some (.readHoldingRegisters slave addr qty)
  | 0x04 => some (.readInputRegisters slave addr qty)
  | 0x05 => some (.writeSingleCoil slave addr value)
  | 0x06 => some (.writeSingleRegister slave addr value)
  | 0x0F => some (.writeMultipleCoils slave addr coils)
  | 0x10 => some (.writeMultipleRegisters slave addr regs)
  | _ => none

/-- The first `n` bytes and the rest, none when there are fewer than `n`. -/
def splitExact : Nat → List Byte → Option (List Byte × List Byte)
  | 0, s => some ([], s)
  | _ + 1, [] => none
  | n + 1, b :: s =>
    match splitExact n s with
    | none => none
    | some (data, rest) => some (b :: data, rest)

/-- A byte count and that many data bytes (R63, R64), for a quantity that implies `n` of them. -/
def decodeCounted (n : Nat) : List Byte → Except DecodeError (List Byte × List Byte)
  | [] => .error .truncated
  | c :: rest =>
    if c.toNat ≠ n then .error .byteCountMismatch
    else
      match splitExact n rest with
      | none => .error .truncated
      | some parts => .ok parts

/-- Data bytes of REQ_WMC as booleans: canonical only with zero padding (R63, R109). -/
def decodeCoilData (qty : Nat) (data : List Byte) : Except DecodeError (List Bool) :=
  if packBits (unpackBits data qty) = data then .ok (unpackBits data qty) else .error .nonzeroPadding

/-- The operation of a PDU whose code is `fc`, with fields `addr` and `arg` and the bytes after them
(R62 to R64). -/
def decodeFields (slave fc : Byte) (addr arg : Word) (rest : List Byte) : Except DecodeError (Instr × List Byte) :=
  match fc.toNat with
  | 0x01 => .ok (.readCoils slave addr arg, rest)
  | 0x02 => .ok (.readDiscreteInputs slave addr arg, rest)
  | 0x03 => .ok (.readHoldingRegisters slave addr arg, rest)
  | 0x04 => .ok (.readInputRegisters slave addr arg, rest)
  | 0x05 => .ok (.writeSingleCoil slave addr arg, rest)
  | 0x06 => .ok (.writeSingleRegister slave addr arg, rest)
  | 0x0F =>
    match decodeCounted (ceilDiv arg.toNat 8) rest with
    | .error e => .error e
    | .ok (data, rest') =>
      match decodeCoilData arg.toNat data with
      | .error e => .error e
      | .ok vs => .ok (.writeMultipleCoils slave addr vs, rest')
  | 0x10 =>
    match decodeCounted (2 * arg.toNat) rest with
    | .error e => .error e
    | .ok (data, rest') => .ok (.writeMultipleRegisters slave addr (unpackRegs data arg.toNat), rest')
  | _ => .error (.unknownFunction fc)

/-- Is `fc` one of the eight function codes (R61)? -/
def knownFunction (fc : Byte) : Bool :=
  fc = 0x01#8 || fc = 0x02#8 || fc = 0x03#8 || fc = 0x04#8 || fc = 0x05#8 || fc = 0x06#8 || fc = 0x0F#8 ||
    fc = 0x10#8

/-- The operation of a request PDU for slave `slave`, and the bytes after the PDU (R62 to R64). -/
def decodePdu (slave : Byte) : List Byte → Except DecodeError (Instr × List Byte)
  | fc :: a1 :: a0 :: v1 :: v0 :: rest => decodeFields slave fc (ofHiLo a1 a0) (ofHiLo v1 v0) rest
  | fc :: _ => if knownFunction fc then .error .truncated else .error (.unknownFunction fc)
  | [] => .error .truncated

/-- The operation of a request ADU and the bytes after the frame (R60). -/
def decode : List Byte → Except DecodeError (Instr × List Byte)
  | [] => .error .truncated
  | slave :: pdu =>
    match decodePdu slave pdu with
    | .error e => .error e
    | .ok (i, l :: h :: rest) =>
      let covered := (slave :: pdu).take (pdu.length - 1 - rest.length)
      if le16 (crc16 covered) = [l, h] then .ok (i, rest) else .error .crcMismatch
    | .ok (_, _) => .error .truncated

/-- `m` followed by its checksum, low byte first: how every frame ends (R60, R131). -/
def frame (m : List Byte) : List Byte := m ++ le16 (crc16 m)

/-- Slave address and PDU of an operation's request (R62, R63, R64). -/
def encodeBody : Instr → List Byte
  | .readCoils s a q => [s, 0x01#8] ++ be16 a ++ be16 q
  | .readDiscreteInputs s a q => [s, 0x02#8] ++ be16 a ++ be16 q
  | .readHoldingRegisters s a q => [s, 0x03#8] ++ be16 a ++ be16 q
  | .readInputRegisters s a q => [s, 0x04#8] ++ be16 a ++ be16 q
  | .writeSingleCoil s a v => [s, 0x05#8] ++ be16 a ++ be16 v
  | .writeSingleRegister s a v => [s, 0x06#8] ++ be16 a ++ be16 v
  | .writeMultipleCoils s a vs =>
    [s, 0x0F#8] ++ be16 a ++ be16 (BitVec.ofNat 16 vs.length) ++ [BitVec.ofNat 8 (ceilDiv vs.length 8)] ++ packBits vs
  | .writeMultipleRegisters s a vs =>
    [s, 0x10#8] ++ be16 a ++ be16 (BitVec.ofNat 16 vs.length) ++ [BitVec.ofNat 8 (2 * vs.length)] ++ packRegs vs

/-- The request frame of an operation (R60, R62, R63, R64). -/
def encode (i : Instr) : List Byte := frame (encodeBody i)

/-- RSP_BITS: the normal response to a bit read (R66), with the packed bytes `data`. Element `i` is bit `i mod 8` of byte `i div 8` of
`data`; the padding bits of its last byte are whatever `data` has there (R113, D29, U10). -/
def rspBits (slave fc : Byte) (data : List Byte) : List Byte :=
  frame ([slave, fc, BitVec.ofNat 8 data.length] ++ data)

/-- RSP_REGS: the normal response to a register read (R67). -/
def rspRegs (slave fc : Byte) (regs : List Word) : List Byte :=
  frame ([slave, fc, BitVec.ofNat 8 (2 * regs.length)] ++ packRegs regs)

/-- RSP_ECHO: the normal response to a write (R68). -/
def rspEcho (slave fc : Byte) (addr arg : Word) : List Byte := frame ([slave, fc] ++ be16 addr ++ be16 arg)

/-- RSP_EXC: the exception response to a request with code `fc` (R70). -/
def rspExc (slave fc code : Byte) : List Byte := frame [slave, BitVec.ofNat 8 (fc.toNat + errBias), code]

/-- The longest request PDU in bytes (R77, R107, R108). -/
def longestPdu : Nat := 252

/-- The low `n` bytes of a number, least significant first. -/
def bytesOfNat : Nat → Nat → List Byte
  | 0, _ => []
  | n + 1, w => BitVec.ofNat 8 w :: bytesOfNat n (w / 256)

/-- The PDU bytes of a table word: byte 0, the function code, is bits 7 to 0, as the `fixed` field of every
row of opcode_table.json has it, and every byte above `nbits` is 0 (log 9). -/
def tablePdu (nbits w : Nat) : List Byte :=
  bytesOfNat (ceilDiv nbits 8) (w % 2 ^ nbits) ++ List.replicate longestPdu 0#8

/-- The operation the decoder reads from a table word. The slave address byte stands before byte 0 and has
no number in the table: it is 0 (log 9). -/
def decodeTableWord (nbits w : Nat) : Option Instr :=
  match decodePdu 0#8 (tablePdu nbits w) with
  | .ok (i, _) => some i
  | .error _ => none

end Sys2Proof
end

