-- ==== Sys2Proof/Machine/Operands.lean ====
section
/-! DEFINITION. The operand registers and windows: host writes to them (R10 to R12), the latch of TXN at GO (R171), the fetch of
an operation from them (R61, R74), what each holds, written or not since reset (R36, R212), and the operand writes of a call (R75). -/

namespace Sys2Proof.Machine

open Sys2Proof

/-- Is `fc` one of the four count-prefixed codes (R32, R171)? -/
def countPrefixed (fc : Byte) : Bool := decide (1 ≤ fc.toNat) && decide (fc.toNat ≤ 4)

/-- The record that GO latches from operands `x` (R171). -/
def Operands.latch (x : Operands) : Txn where
  fc := x.fc
  slave := x.slave
  addr := x.addr
  qty := x.qty
  value := x.value
  signed := x.signed
  counted := countPrefixed x.fc

/-- `TXN <- …` at GO (R171). -/
def State.latchTxn (x : Operands) (s : State) : State := { s with txn := x.latch }

/-- A host write to `x[n]`, `n` in 0 to 5: the low bits that fit (R10, R11, U13, log 16). -/
def Operands.write (n : Nat) (v : Word) (x : Operands) : Operands :=
  match n with
  | 0 => { x with fc := lo8 v }
  | 1 => { x with slave := lo8 v }
  | 2 => { x with addr := v }
  | 3 => { x with qty := v }
  | 4 => { x with value := v }
  | 5 => { x with signed := v.getLsbD 0 }
  | _ => x

/-- `x[n]` has been written (R212). -/
def Written.markReg (n : Nat) (w : Written) : Written :=
  match n with
  | 0 => { w with fc := true }
  | 1 => { w with slave := true }
  | 2 => { w with addr := true }
  | 3 => { w with qty := true }
  | 4 => { w with value := true }
  | 5 => { w with signed := true }
  | _ => w

/-- What place `p` holds when nothing has written it since reset: any value, the same at every look (R36; DESIGN CHOICE, log 33,
against R212). -/
def State.unwritten (p : Place) (s : State) : Word := Config.freeContent s.resets p

/-- The contents of the operand registers (R10): what the host wrote last, any value where it has written nothing since reset
(DESIGN CHOICE, log 33). -/
def State.operands (s : State) : Operands where
  fc := if s.written.fc then s.x.fc else lo8 (s.unwritten (.operand 0))
  slave := if s.written.slave then s.x.slave else lo8 (s.unwritten (.operand 1))
  addr := if s.written.addr then s.x.addr else s.unwritten (.operand 2)
  qty := if s.written.qty then s.x.qty else s.unwritten (.operand 3)
  value := if s.written.value then s.x.value else s.unwritten (.operand 4)
  signed := if s.written.signed then s.x.signed else (s.unwritten (.operand 5)).getLsbD 0

/-- The content of `WCOIL[k]` (R12): what the host wrote last, else any value (DESIGN CHOICE, log 33). -/
def State.coilAt (k : Nat) (s : State) : Bool :=
  if Memory.read s.written.wcoil k then Memory.read s.wcoil k else (s.unwritten (.coil k)).getLsbD 0

/-- The content of `WREG[k]` (R12): what the host wrote last, else any value (DESIGN CHOICE, log 33). -/
def State.regAt (k : Nat) (s : State) : Word :=
  if Memory.read s.written.wreg k then Memory.read s.wreg k else s.unwritten (.reg k)

/-- `WCOIL[0 .. n-1]` (R107). -/
def State.coils (n : Nat) (s : State) : List Bool := (List.range n).map fun k => s.coilAt k

/-- `WREG[0 .. n-1]` (R108). -/
def State.regs (n : Nat) (s : State) : List Word := (List.range n).map fun k => s.regAt k

/-- The content of `x[n]`, `n` in 0 to 5, on the host's 16-bit data path (log 14). -/
def Operands.read (n : Nat) (x : Operands) : Word :=
  match n with
  | 0 => x.fc.setWidth 16
  | 1 => x.slave.setWidth 16
  | 2 => x.addr
  | 3 => x.qty
  | 4 => x.value
  | 5 => (BitVec.ofBool x.signed).setWidth 16
  | _ => 0#16

/-- The operation that the operand registers and the write-data windows describe (R61, R74, R107, R108). -/
def State.fetchCommand (s : State) : Option Instr :=
  decodeCommand s.operands.fc s.operands.slave s.operands.addr s.operands.qty s.operands.value
    (s.coils s.operands.qty.toNat) (s.regs s.operands.qty.toNat)

/-- The operation of the running transaction, from its latched record (R32, R55). -/
def State.fetchTxn (s : State) : Option Instr :=
  decodeCommand s.txn.fc s.txn.slave s.txn.addr s.txn.qty s.txn.value
    (s.coils s.txn.qty.toNat) (s.regs s.txn.qty.toNat)

/-- The operands of an operation over registers `x`: the registers that are no operand of it keep their content (R10). `SIGNED`
is read from `x[5]` (R171, log 10). -/
def callOperands (i : Instr) (x : Operands) : Operands :=
  match i with
  | .readCoils sl a q => { x with fc := 0x01#8, slave := sl, addr := a, qty := q }
  | .readDiscreteInputs sl a q => { x with fc := 0x02#8, slave := sl, addr := a, qty := q }
  | .readHoldingRegisters sl a q => { x with fc := 0x03#8, slave := sl, addr := a, qty := q }
  | .readInputRegisters sl a q => { x with fc := 0x04#8, slave := sl, addr := a, qty := q }
  | .writeSingleCoil sl a v => { x with fc := 0x05#8, slave := sl, addr := a, value := v }
  | .writeSingleRegister sl a v => { x with fc := 0x06#8, slave := sl, addr := a, value := v }
  | .writeMultipleCoils sl a vs => { x with fc := 0x0F#8, slave := sl, addr := a, qty := BitVec.ofNat 16 vs.length }
  | .writeMultipleRegisters sl a vs => { x with fc := 0x10#8, slave := sl, addr := a, qty := BitVec.ofNat 16 vs.length }

/-- `x[5]` after the writes of a call with `signed=g`: the two register reads have that argument (R75). -/
def callSigned (i : Instr) (g : Bool) (x : Operands) : Bool :=
  match i with
  | .readHoldingRegisters _ _ _ => g
  | .readInputRegisters _ _ _ => g
  | _ => x.signed

/-- What the writes of a call add to what has been written (R75, R212). -/
def callMarks (i : Instr) (w : Written) : Written :=
  match i with
  | .readCoils _ _ _ => { w with fc := true, slave := true, addr := true, qty := true }
  | .readDiscreteInputs _ _ _ => { w with fc := true, slave := true, addr := true, qty := true }
  | .readHoldingRegisters _ _ _ => { w with fc := true, slave := true, addr := true, qty := true, signed := true }
  | .readInputRegisters _ _ _ => { w with fc := true, slave := true, addr := true, qty := true, signed := true }
  | .writeSingleCoil _ _ _ => { w with fc := true, slave := true, addr := true, value := true }
  | .writeSingleRegister _ _ _ => { w with fc := true, slave := true, addr := true, value := true }
  | .writeMultipleCoils _ _ vs =>
    { w with fc := true, slave := true, addr := true, qty := true,
             wcoil := Memory.writeList 0 (vs.map fun _ => true) w.wcoil }
  | .writeMultipleRegisters _ _ vs =>
    { w with fc := true, slave := true, addr := true, qty := true,
             wreg := Memory.writeList 0 (vs.map fun _ => true) w.wreg }

/-- The state after the host writes of a call with `signed=g` (R75), the argument's default being `false`: operand registers,
`x[5]` for the two register reads, and the list into WCOIL or WREG from element 0. -/
def State.loadCall (i : Instr) (g : Bool) (s : State) : State :=
  { s with
    x := { callOperands i s.x with signed := callSigned i g s.x }
    written := callMarks i s.written
    wcoil := match i with | .writeMultipleCoils _ _ vs => Memory.writeList 0 vs s.wcoil | _ => s.wcoil
    wreg := match i with | .writeMultipleRegisters _ _ vs => Memory.writeList 0 vs s.wreg | _ => s.wreg }

/-- The low bit of a host value, for a window of booleans (R9, log 16). -/
def bitOfWord (v : Word) : Bool := v.getLsbD 0

/-- A boolean element on the host's data path (R9). -/
def wordOfBit (b : Bool) : Word := (BitVec.ofBool b).setWidth 16

/-- Number of elements of a window (R12, R13, R40). -/
def State.windowCap (w : Window) (s : State) : Nat :=
  match w with
  | .wcoil => s.cfg.wmcQtyMax
  | .wreg => wregCap
  | .rbits => rbitsCap
  | .rregs => rregsCap

/-- A host write to a window element: WCOIL and WREG take it, a write to a result window is ignored (R12, U13). -/
def State.writeWindow (w : Window) (i : Nat) (v : Word) (s : State) : State :=
  match w with
  | .wcoil =>
    { s with wcoil := Memory.write i (bitOfWord v) s.wcoil
             written := { s.written with wcoil := Memory.write i true s.written.wcoil } }
  | .wreg =>
    { s with wreg := Memory.write i v s.wreg
             written := { s.written with wreg := Memory.write i true s.written.wreg } }
  | .rbits => s
  | .rregs => s

end Sys2Proof.Machine
end

