-- ==== Sys2Proof/Machine/Transact.lean ====
section
/-! DEFINITION. The sequencer SEQ: GO (R171) and the common microprogram of every operation (R172), one step a call, with
STATE as its program counter (R14, R170). -/

namespace Sys2Proof.Machine

open Sys2Proof

/-- GO with operands `x` and the outcome `pdu` of the encode rule (R171): clear the results, latch TXN, then either
`raise` or `pc <- Sending`. -/
def go (x : Operands) (pdu : Except Err (List Byte)) (s : State) : State :=
  match pdu with
  | .error e => (s.clearResults.latchTxn x).raise e
  | .ok p => (s.clearResults.latchTxn x).goto (.sending (.build p))

/-- The next step of a running transaction whose decode rule is `dec` (R172). -/
def advance (dec : List Byte → State → State) (s : State) : State :=
  match s.seq with
  | .sending k => sendStep k s
  | .awaitingResponse k => recvStep k s
  | .validating .check => checkStep s
  | .validating (.decode payload) => dec payload s
  | _ => s

/-- One step of the microprogram of the operation with operands `x` (R172): GO at rest, the next step while its own
transaction runs, and nothing while another operation's does (R181, log 11). -/
def transact (x : Operands) (pdu : Except Err (List Byte)) (dec : List Byte → State → State) (s : State) : State :=
  if s.busy then (if s.txn.fc = x.fc then advance dec s else s) else go x pdu s

end Sys2Proof.Machine
end

