-- ==== Sys2Proof/Machine/Reads.lean ====
section
/-! DEFINITION. The four read operations: encode rules (R101 to R104), decode rules (R113, R114), meanings (R173 to R176). -/

namespace Sys2Proof.Machine

open Sys2Proof

/-- A read PDU when the quantity is inside `[1, maxQty]`, else `InvalidParameter` (R100 to R104). -/
def encodeRead (fc : Byte) (maxQty : Nat) (addr qty : Word) : Except Err (List Byte) :=
  if qty.toNat < 1 ∨ maxQty < qty.toNat then .error .invalidParameter else .ok ([fc] ++ be16 addr ++ be16 qty)

/-- Encode `read_coils` (R101). -/
def encodeReadCoils (addr qty : Word) : Except Err (List Byte) := encodeRead 0x01#8 2000 addr qty

/-- Encode `read_discrete_inputs` (R102). -/
def encodeReadDiscreteInputs (addr qty : Word) : Except Err (List Byte) := encodeRead 0x02#8 2000 addr qty

/-- Encode `read_holding_registers` (R103). -/
def encodeReadHoldingRegisters (addr qty : Word) : Except Err (List Byte) := encodeRead 0x03#8 125 addr qty

/-- Encode `read_input_registers` (R104). -/
def encodeReadInputRegisters (addr qty : Word) : Except Err (List Byte) := encodeRead 0x04#8 125 addr qty

/-- Decode a bit response (R113). -/
def decodeBits (payload : List Byte) (s : State) : State :=
  if payload.length ≠ ceilDiv s.txn.qty.toNat 8 then s.raise .unexpectedLength
  else s.completeBits (unpackBits payload s.txn.qty.toNat) s.txn.qty

/-- Decode a register response (R114). -/
def decodeRegs (payload : List Byte) (s : State) : State :=
  if payload.length ≠ 2 * s.txn.qty.toNat then s.raise .unexpectedLength
  else s.completeRegs (unpackRegs payload s.txn.qty.toNat) s.txn.qty

/-- `read_coils` (R173): `transact` with encode rule R101 and decode rule R113. -/
def execReadCoils (slave : Byte) (addr qty : Word) (s : State) : Host.Outcome State Fault Refusal :=
  .next (transact (callOperands (.readCoils slave addr qty) s.operands) (encodeReadCoils addr qty) decodeBits s)

/-- `read_discrete_inputs` (R174): `transact` with encode rule R102 and decode rule R113. -/
def execReadDiscreteInputs (slave : Byte) (addr qty : Word) (s : State) : Host.Outcome State Fault Refusal :=
  .next (transact (callOperands (.readDiscreteInputs slave addr qty) s.operands) (encodeReadDiscreteInputs addr qty) decodeBits s)

/-- `read_holding_registers` (R175): `transact` with encode rule R103 and decode rule R114. -/
def execReadHoldingRegisters (slave : Byte) (addr qty : Word) (s : State) : Host.Outcome State Fault Refusal :=
  .next (transact (callOperands (.readHoldingRegisters slave addr qty) s.operands) (encodeReadHoldingRegisters addr qty)
    decodeRegs s)

/-- `read_input_registers` (R176): `transact` with encode rule R104 and decode rule R114. -/
def execReadInputRegisters (slave : Byte) (addr qty : Word) (s : State) : Host.Outcome State Fault Refusal :=
  .next (transact (callOperands (.readInputRegisters slave addr qty) s.operands) (encodeReadInputRegisters addr qty)
    decodeRegs s)

end Sys2Proof.Machine
end

