-- ==== Sys2Proof/Machine/Writes.lean ====
section
/-! DEFINITION. The four write operations: encode rules (R105 to R108), decode rules (R115, R116), meanings (R177 to R180). -/

namespace Sys2Proof.Machine

open Sys2Proof

/-- Encode `write_single_coil` (R105). -/
def encodeWriteSingleCoil (addr value : Word) : Except Err (List Byte) :=
  if value ≠ 0x0000#16 ∧ value ≠ 0xFF00#16 then .error .invalidParameter
  else .ok ([0x05#8] ++ be16 addr ++ be16 value)

/-- Encode `write_single_register` (R106). -/
def encodeWriteSingleRegister (addr value : Word) : Except Err (List Byte) :=
  .ok ([0x06#8] ++ be16 addr ++ be16 value)

/-- Encode `write_multiple_coils` (R107). -/
def encodeWriteMultipleCoils (wmcMax : Nat) (addr : Word) (values : List Bool) : Except Err (List Byte) :=
  if values.length < 1 ∨ wmcMax < values.length then .error .invalidParameter
  else .ok ([0x0F#8] ++ be16 addr ++ be16 (BitVec.ofNat 16 values.length) ++
    [BitVec.ofNat 8 (ceilDiv values.length 8)] ++ packBits values)

/-- Encode `write_multiple_registers` (R108). -/
def encodeWriteMultipleRegisters (addr : Word) (values : List Word) : Except Err (List Byte) :=
  if values.length < 1 ∨ 123 < values.length then .error .invalidParameter
  else .ok ([0x10#8] ++ be16 addr ++ be16 (BitVec.ofNat 16 values.length) ++
    [BitVec.ofNat 8 (2 * values.length)] ++ packRegs values)

/-- Decode a single-write echo (R115). -/
def decodeSingleEcho (payload : List Byte) (s : State) : State :=
  s.completeAck (decide (u16be payload 0 = s.txn.addr) && decide (u16be payload 2 = s.txn.value))

/-- Decode a multiple-write echo (R116). -/
def decodeMultipleEcho (payload : List Byte) (s : State) : State :=
  s.completeAck (decide (u16be payload 0 = s.txn.addr) && decide (u16be payload 2 = s.txn.qty))

/-- `write_single_coil` (R177): `transact` with encode rule R105 and decode rule R115. -/
def execWriteSingleCoil (slave : Byte) (addr value : Word) (s : State) : Host.Outcome State Fault Refusal :=
  .next (transact (callOperands (.writeSingleCoil slave addr value) s.operands) (encodeWriteSingleCoil addr value)
    decodeSingleEcho s)

/-- `write_single_register` (R178): `transact` with encode rule R106 and decode rule R115. -/
def execWriteSingleRegister (slave : Byte) (addr value : Word) (s : State) : Host.Outcome State Fault Refusal :=
  .next (transact (callOperands (.writeSingleRegister slave addr value) s.operands) (encodeWriteSingleRegister addr value)
    decodeSingleEcho s)

/-- `write_multiple_coils` (R179): `transact` with encode rule R107 and decode rule R116. -/
def execWriteMultipleCoils (slave : Byte) (addr : Word) (values : List Bool) (s : State) :
    Host.Outcome State Fault Refusal :=
  .next (transact (callOperands (.writeMultipleCoils slave addr values) s.operands)
    (encodeWriteMultipleCoils s.cfg.wmcQtyMax addr values) decodeMultipleEcho s)

/-- `write_multiple_registers` (R180): `transact` with encode rule R108 and decode rule R116. -/
def execWriteMultipleRegisters (slave : Byte) (addr : Word) (values : List Word) (s : State) :
    Host.Outcome State Fault Refusal :=
  .next (transact (callOperands (.writeMultipleRegisters slave addr values) s.operands)
    (encodeWriteMultipleRegisters addr values) decodeMultipleEcho s)

end Sys2Proof.Machine
end

