-- ==== Sys2Proof/Machine/Dispatch.lean ====
section
/-! DEFINITION. The dispatch: one arm per operation, one direct call of its meaning. -/

namespace Sys2Proof.Machine

open Sys2Proof

/-- One step of the sequencer for operation `i` (R172): GO when the engine is at rest, the step that STATE names while
the operation's own transaction runs. -/
def exec (i : Instr) (s : State) : Host.Outcome State Fault Refusal :=
  match i with
  | .readCoils slave addr qty => Sys2Proof.Machine.execReadCoils slave addr qty s
  | .readDiscreteInputs slave addr qty => Sys2Proof.Machine.execReadDiscreteInputs slave addr qty s
  | .readHoldingRegisters slave addr qty => Sys2Proof.Machine.execReadHoldingRegisters slave addr qty s
  | .readInputRegisters slave addr qty => Sys2Proof.Machine.execReadInputRegisters slave addr qty s
  | .writeSingleCoil slave addr value => Sys2Proof.Machine.execWriteSingleCoil slave addr value s
  | .writeSingleRegister slave addr value => Sys2Proof.Machine.execWriteSingleRegister slave addr value s
  | .writeMultipleCoils slave addr values => Sys2Proof.Machine.execWriteMultipleCoils slave addr values s
  | .writeMultipleRegisters slave addr values => Sys2Proof.Machine.execWriteMultipleRegisters slave addr values s

end Sys2Proof.Machine
end

