-- ==== Sys2Proof/Machine/HostPort.lean ====
section
/-! DEFINITION. The host interface apart from GO: which registers exist, what a read returns and when its value is
defined (R10 to R20, R182, U2, U3, U13), and the operand writes of the host (R11, R12). -/

namespace Sys2Proof.Machine

open Sys2Proof

/-- The register numbers that exist: 0 to 5 and 8 to 13 (R10, R15 to R20, U13). -/
def regExists (n : Nat) : Bool := decide (n ≤ 5) || (decide (8 ≤ n) && decide (n ≤ 13))

/-- The number of CTRL (R15). -/
def ctrlReg : Nat := 8

/-- Bit width of a register on a host read (R10, R15 to R20). -/
def regWidth (n : Nat) : Nat :=
  match n with
  | 0 => 8
  | 1 => 8
  | 5 => 1
  | 8 => 8
  | 9 => 8
  | 10 => 3
  | 11 => 8
  | 12 => 1
  | _ => 16

/-- `R_ERR`, `R_EXC` and `R_ACK` are defined for the host while `DONE = 1` and in `Idle` (R182). -/
def Seq.resultReadable (q : Seq) : Bool := q.done || decide (q = .idle)

/-- What register `n` holds for a host read; none where the spec says any value (R182, U3). `CTRL` reads 0 (R15). -/
def State.regContent (n : Nat) (s : State) : Option Word :=
  match n with
  | 8 => some 0#16
  | 9 => some (s.status.setWidth 16)
  | 10 => if s.seq.resultReadable then some (BitVec.ofNat 16 s.rErr.number) else none
  | 11 => if s.seq.resultReadable then some (s.rExc.setWidth 16) else none
  | 12 => if s.seq.resultReadable then some (wordOfBit s.rAck) else none
  | 13 => if s.done then some s.rCount else none
  | k => some (s.operands.read k)

/-- Element `i` of a result window is a result: in `Completed`, below `R_COUNT`, after an operation that fills this
window (R13, R182). -/
def State.isResult (w : Window) (i : Nat) (s : State) : Bool :=
  decide (s.seq = .completed) && decide (i < s.rCount.toNat) &&
    match w with
    | .rbits => s.txn.fc = 0x01#8 || s.txn.fc = 0x02#8
    | .rregs => s.txn.fc = 0x03#8 || s.txn.fc = 0x04#8
    | _ => false

/-- What element `i` of a window holds for a host read; none where the spec says any value (R13, U2). -/
def State.elemContent (w : Window) (i : Nat) (s : State) : Option Word :=
  match w with
  | .wcoil => some (wordOfBit (s.coilAt i))
  | .wreg => some (s.regAt i)
  | .rbits => if s.isResult .rbits i then some (wordOfBit (Memory.read s.rbits i)) else none
  | .rregs => if s.isResult .rregs i then some (Memory.read s.rregs i) else none

/-- The integer a host read of a window gives: an RREGS element signed or unsigned, the others unsigned, a boolean as 0 or 1
(R9, R13, R114). -/
def presentElem (w : Window) (signed : Bool) (v : Word) : Int :=
  match w with
  | .wcoil => (bitOfWord v).toNat
  | .wreg => zext16 v
  | .rbits => (bitOfWord v).toNat
  | .rregs => if signed then sext16 v else zext16 v

/-- The sign of a host read of an element: as `TXN.SIGNED` says where the element is a result (R13, R114); where it is none the
spec gives no value, before the first GO no `SIGNED` either (R32), and the sign is free (DESIGN CHOICE of form, log 31). -/
def State.readSigned (content : Option Word) (s : State) : Bool :=
  if content.isSome then s.txn.signed else Config.freeSigned s.freeCount

/-- The integer a host read of register `n` gives: the bits the register has (U13). -/
def presentReg (n : Nat) (v : Word) : Int := v.toNat % 2 ^ regWidth n

/-- The pattern a host read finds: the content, or the next free value (log 13). -/
def State.hostPattern (content : Option Word) (s : State) : Word := content.getD (Config.freeValue s.freeCount)

/-- A host read delivers `v`; a free value has been used when there was no content (log 13). -/
def State.deliver (content : Option Word) (v : Int) (s : State) : State :=
  { s with hostData := v, freeCount := if content.isNone then s.freeCount + 1 else s.freeCount }

/-- A host read of register `n` (R15 to R20, R182). -/
def State.hostReadReg (n : Nat) (s : State) : State :=
  s.deliver (s.regContent n) (presentReg n (s.hostPattern (s.regContent n)))

/-- A host read of an element of a window (R13, R47). -/
def State.hostReadElem (w : Window) (i : Nat) (s : State) : State :=
  s.deliver (s.elemContent w i)
    (presentElem w (s.readSigned (s.elemContent w i)) (s.hostPattern (s.elemContent w i)))

/-- A host write to a register other than the GO strobe: ignored while BUSY, operand registers take it, the others ignore
it (R11, R15, U13). -/
def State.hostWriteReg (n : Nat) (v : Word) (s : State) : State :=
  if s.busy then s else { s with x := s.x.write n v, written := s.written.markReg n }

/-- A host write to an element of a window: ignored while BUSY (R12). -/
def State.hostWriteElem (w : Window) (i : Nat) (v : Word) (s : State) : State :=
  if s.busy then s else s.writeWindow w i v

/-! ## Calls (R75) -/

/-- The host writes of a list into a window from element `k` (R75). -/
def elemWrites (w : Window) : Nat → List Word → List HostAct
  | _, [] => []
  | k, v :: vs => .writeElem w k v :: elemWrites w (k + 1) vs

/-- The host writes of a call with `signed=g`, in the order of R75, up to its GO. -/
def callWrites (i : Instr) (g : Bool) : List HostAct :=
  match i with
  | .readCoils sl a q => [.writeReg 1 (sl.setWidth 16), .writeReg 2 a, .writeReg 3 q, .writeReg 0 0x01#16]
  | .readDiscreteInputs sl a q => [.writeReg 1 (sl.setWidth 16), .writeReg 2 a, .writeReg 3 q, .writeReg 0 0x02#16]
  | .readHoldingRegisters sl a q =>
    [.writeReg 1 (sl.setWidth 16), .writeReg 2 a, .writeReg 3 q, .writeReg 5 (wordOfBit g), .writeReg 0 0x03#16]
  | .readInputRegisters sl a q =>
    [.writeReg 1 (sl.setWidth 16), .writeReg 2 a, .writeReg 3 q, .writeReg 5 (wordOfBit g), .writeReg 0 0x04#16]
  | .writeSingleCoil sl a v => [.writeReg 1 (sl.setWidth 16), .writeReg 2 a, .writeReg 4 v, .writeReg 0 0x05#16]
  | .writeSingleRegister sl a v => [.writeReg 1 (sl.setWidth 16), .writeReg 2 a, .writeReg 4 v, .writeReg 0 0x06#16]
  | .writeMultipleCoils sl a vs =>
    [.writeReg 1 (sl.setWidth 16), .writeReg 2 a, .writeReg 3 (BitVec.ofNat 16 vs.length)] ++
      elemWrites .wcoil 0 (vs.map wordOfBit) ++ [.writeReg 0 0x0F#16]
  | .writeMultipleRegisters sl a vs =>
    [.writeReg 1 (sl.setWidth 16), .writeReg 2 a, .writeReg 3 (BitVec.ofNat 16 vs.length)] ++
      elemWrites .wreg 0 vs ++ [.writeReg 0 0x10#16]

end Sys2Proof.Machine
end

