-- ==== Sys2Proof/Machine/Turn.lean ====
section
/-! DEFINITION. One turn of each agent: the host with GO (R15, R171, R181), the engine (R172), the environment (R34) and the
bootstrap layer (R210, R212). -/

namespace Sys2Proof.Machine

open Sys2Proof

/-- GO with a function code outside the eight: `InvalidParameter`, nothing sent (R72, R171). -/
def goUnknown (s : State) : State := (s.clearResults.latchTxn s.operands).raise .invalidParameter

/-- The host writes 1 to `CTRL.GO`: ignored while BUSY (R181), else the operation that the operand registers describe takes its
GO step (R171), also on an operand that the host has not written since reset: DESIGN CHOICE against R212's refusal, log 33. -/
def goTurn (s : State) : Host.Outcome State Fault Refusal :=
  if s.busy then .next s
  else
    match s.fetchCommand with
    | some i => exec i s
    | none => .next (goUnknown s)

/-- A turn of the host (R34). -/
def hostTurn (a : HostAct) (s : State) : Host.Outcome State Fault Refusal :=
  match a with
  | .writeReg n v =>
    if regExists n then (if n = ctrlReg ∧ v.getLsbD 0 then goTurn s else .next (s.hostWriteReg n v))
    else .refused (.noSuchRegister n)
  | .readReg n => if regExists n then .next (s.hostReadReg n) else .refused (.noSuchRegister n)
  | .writeElem w i v => if i < s.windowCap w then .next (s.hostWriteElem w i v) else .fault (.noSuchElement w i)
  | .readElem w i => if i < s.windowCap w then .next (s.hostReadElem w i) else .fault (.noSuchElement w i)

/-- A turn of the engine: the next step of the running transaction, whose operation is read from TXN (R14, R32); nothing at
rest (R172: "nothing more until the next GO"). -/
def engineTurn (s : State) : Host.Outcome State Fault Refusal :=
  if s.busy then
    match s.fetchTxn with
    | some i => exec i s
    | none => .next s
  else .next s

/-- What a turn of the environment does to the port (R22, R25, R27). -/
def envTurn (a : EnvAct) (s : State) : State :=
  match a with
  | .receive bs => { s with rxq := s.rxq ++ bs }
  | .txDone => { s with txDone := true }
  | .pass ms => { s with now := s.now + ms }

/-- A turn of the bootstrap layer (R210); a record outside its constraints is refused (U14). -/
def bootTurn (a : BootAct) (s : State) : Host.Outcome State Fault Refusal :=
  match a with
  | .construct cfg => if cfg.valid then .next (s.resetEngine cfg) else .refused .badConfig
  | .reset => .next (s.resetEngine s.cfg)

/-- One turn of one agent (R34). -/
def takeTurn (t : Turn) (s : State) : Host.Outcome State Fault Refusal :=
  match t with
  | .engine => engineTurn s
  | .host a => hostTurn a s
  | .env a => .next (envTurn a s)
  | .boot a => bootTurn a s

/-- A state at rest in which the host may pulse GO: a busy engine is taken to `Idle` with `DE` released (log 8). -/
def State.atRest (s : State) : State := if s.busy then { s with seq := .idle, de := false } else s

/-- The operand registers of a PDU that is no operation: only its function code counts (R72, log 8). -/
def State.loadUnknown (fc : Byte) (s : State) : State :=
  { s with x := { s.x with fc := fc }, written := { s.written with fc := true } }

/-- The call of a table word, without a `signed=` argument, in the operand registers and windows (R75, log 8). -/
def State.loadTableWord (nbits w : Nat) (s : State) : State :=
  match decodeTableWord nbits w with
  | some i => s.loadCall i false
  | none => s.loadUnknown (byteAt (tablePdu nbits w) 0)

/-- The host's GO as the next turn (R15, log 8). -/
def State.pushGo (s : State) : State := { s with agenda := .host (.writeReg ctrlReg 1#16) :: s.agenda }

end Sys2Proof.Machine
end

