-- ==== Sys2Proof/Machine/Step.lean ====
section
/-! DEFINITION. One step of the machine: the next turn of the agenda, or a turn of the engine when it is empty (log 5); and how
the host places an operation where the next step fetches it (log 8). -/

namespace Sys2Proof.Machine

open Sys2Proof

/-- One step (R34, R50). -/
def step (s : State) : Host.Outcome State Fault Refusal :=
  match s.agenda with
  | [] => engineTurn s
  | t :: rest => takeTurn t { s with agenda := rest }

/-- `s` with the operation of a table word in the operand registers and the host's GO as the next turn, so that the very
next step runs it (log 8). -/
def State.withFetchWord (s : State) (nbits w : Nat) : State := (s.atRest.loadTableWord nbits w).pushGo

end Sys2Proof.Machine
end

