-- ==== Sys2Proof/WellFormed.lean ====
section
/-! DEFINITION. Which operations have legal parameters: the operand bounds of spec/opcode_table.json and
of R100. A term outside them is still an operation the engine runs, into `InvalidParameter` (R191). -/

namespace Sys2Proof

/-- Which bound an operation breaks (R100, R191). -/
inductive IllFormed
  /-- A bit-read quantity outside 1 to 2000 (R101, R102). -/
  | bitQuantity
  /-- A register-read quantity outside 1 to 125 (R103, R104). -/
  | registerQuantity
  /-- A single-coil value other than `0x0000` and `0xFF00` (R105). -/
  | coilValue
  /-- A multiple-coil quantity outside 1 to `WMC_QTY_MAX` (R107). -/
  | coilCount
  /-- A multiple-register quantity outside 1 to 123 (R108). -/
  | registerCount
deriving DecidableEq, Repr

/-- The bound an operation breaks, if any, for an instance whose `WMC_QTY_MAX` is `wmcMax`. -/
def Instr.illFormed (wmcMax : Nat) : Instr → Option IllFormed
  | .readCoils _ _ q => if 1 ≤ q.toNat ∧ q.toNat ≤ 2000 then none else some .bitQuantity
  | .readDiscreteInputs _ _ q => if 1 ≤ q.toNat ∧ q.toNat ≤ 2000 then none else some .bitQuantity
  | .readHoldingRegisters _ _ q => if 1 ≤ q.toNat ∧ q.toNat ≤ 125 then none else some .registerQuantity
  | .readInputRegisters _ _ q => if 1 ≤ q.toNat ∧ q.toNat ≤ 125 then none else some .registerQuantity
  | .writeSingleCoil _ _ v => if v = 0x0000#16 ∨ v = 0xFF00#16 then none else some .coilValue
  | .writeSingleRegister _ _ _ => none
  | .writeMultipleCoils _ _ vs => if 1 ≤ vs.length ∧ vs.length ≤ wmcMax then none else some .coilCount
  | .writeMultipleRegisters _ _ vs => if 1 ≤ vs.length ∧ vs.length ≤ 123 then none else some .registerCount

/-- Every parameter is inside its bound (R100). -/
def Instr.wf (wmcMax : Nat) (i : Instr) : Bool := (i.illFormed wmcMax).isNone

end Sys2Proof
end

