-- ==== Sys2Proof/Safety.lean ====
section
/-! DEFINITION. The terms in which statements about runs are made: the invariants of the machine, the order of port
events on the line, and the shortest schedule of one transaction. -/

namespace Sys2Proof.Machine

open Sys2Proof

/-! ## Invariants -/

/-- The configuration is legal and a running transaction is one that its encode rule accepted (R6, R32, R100, R171). -/
structure TxnInv (s : State) : Prop where
  cfg : s.cfg.valid = true
  running : s.busy = true → ∃ i, s.fetchTxn = some i ∧ i.wf s.cfg.wmcQtyMax = true
  counted : s.busy = true → s.txn.counted = countPrefixed s.txn.fc

/-- Every buffer has its canonical form and stays inside its array (R40). -/
structure BufferInv (s : State) : Prop where
  wcoil : Memory.wf s.wcoil = true ∧ Memory.within s.cfg.wmcQtyMax s.wcoil = true
  wreg : Memory.wf s.wreg = true ∧ Memory.within wregCap s.wreg = true
  writtenCoils : Memory.wf s.written.wcoil = true ∧ Memory.within s.cfg.wmcQtyMax s.written.wcoil = true
  writtenRegs : Memory.wf s.written.wreg = true ∧ Memory.within wregCap s.written.wreg = true
  rbits : Memory.wf s.rbits = true ∧ Memory.within rbitsCap s.rbits = true
  rregs : Memory.wf s.rregs = true ∧ Memory.within rregsCap s.rregs = true
  txbuf : Memory.wf s.txbuf = true ∧ Memory.within txCap s.txbuf = true
  rxbuf : Memory.wf s.rxbuf = true ∧ Memory.within s.cfg.rxCap s.rxbuf = true

/-- A receive step inside the loop, past its entry (R136, R137). -/
def Seq.inLoop : Seq → Bool
  | .awaitingResponse .readNow => true
  | .awaitingResponse (.poll _) => true
  | .awaitingResponse (.pause _) => true
  | _ => false

/-- The ranges of the lengths: TXLEN (R28), the PDU between GO and the build (R107, R108), RXLEN (R29), and `RXLEN < RX_CAP`
inside the loop (R139). -/
structure LengthInv (s : State) : Prop where
  txlen : s.txlen ≤ 255
  pdu : ∀ pdu, s.seq = .sending (.build pdu) → 5 ≤ pdu.length ∧ pdu.length ≤ 252
  rxlen : s.rxlen ≤ s.cfg.rxCap
  loop : s.seq.inLoop = true → s.rxlen < s.cfg.rxCap

/-- The result registers: `R_ERR` (R17), `R_EXC` (R18), `R_ACK` (R19), `R_COUNT` (R20). -/
structure ResultInv (s : State) : Prop where
  err : s.rErr ≠ .none ↔ s.seq = .failed
  exc : s.rExc ≠ 0#8 → s.rErr = .slaveException
  ack : s.rAck = true → s.seq = .completed ∧ s.txn.counted = false
  count : s.rCount ≠ 0#16 → s.seq = .completed ∧ s.txn.counted = true
  read : s.seq = .completed → s.txn.counted = true → s.rCount = s.txn.qty
  range : s.rCount.toNat ≤ 2000

/-- The saved readings of `NOW` are in order (R27, R30). -/
structure ClockInv (s : State) : Prop where
  start : s.seq.inLoop = true → s.tStart ≤ s.tLast ∧ s.tLast ≤ s.now
  poll : ∀ t, s.seq = .awaitingResponse (.poll t) → s.tLast ≤ t ∧ t ≤ s.now

/-! ## The order of port events (R51, R52, R214) -/

/-- Where the line stands after a sequence of port events. -/
inductive LinePhase
  /-- No transaction has touched the line since reset. -/
  | quiet
  /-- Drained, nothing sent yet. -/
  | flushed
  /-- Direction output asserted. -/
  | driving
  /-- ADU handed over, direction output still asserted. -/
  | sent
  /-- Direction output released, or absent and the ADU handed over: the receive side. -/
  | listening
deriving DecidableEq, Repr

/-- The next phase of the line, none for an event out of order: drain, assert, write, release, reads; without a direction
output drain, write, reads (R51, R52, R134). -/
def LinePhase.next (dePresent : Bool) (p : LinePhase) (e : PortEvent) : Option LinePhase :=
  match p, e with
  | .quiet, .flushRx => some .flushed
  | .listening, .flushRx => some .flushed
  | .flushed, .de true => if dePresent then some .driving else none
  | .flushed, .write _ => if dePresent then none else some .listening
  | .driving, .write _ => some .sent
  | .sent, .de false => some .listening
  | .listening, .read _ => some .listening
  | _, _ => none

/-- The phase of the line after `es`, none if an event was out of order. -/
def linePhase (dePresent : Bool) (es : List PortEvent) : Option LinePhase :=
  es.foldl (fun p e => p.bind fun q => q.next dePresent e) (some .quiet)

/-- The phases of the line that a place of the sequencer admits. -/
def Seq.linePhases (dePresent : Bool) : Seq → List LinePhase
  | .idle => [.quiet]
  | .sending (.build _) => [.quiet, .listening]
  | .sending .drain => [.quiet, .listening]
  | .sending .assertDe => if dePresent then [.flushed] else []
  | .sending .write => if dePresent then [.driving] else [.flushed]
  | .sending .awaitDone => if dePresent then [.sent] else []
  | .sending .releaseDe => if dePresent then [.sent] else []
  | .awaitingResponse _ => [.listening]
  | .validating _ => [.listening]
  | .completed => [.listening]
  | .failed => [.quiet, .listening]

/-- Between the assert step and the release step of R133. -/
def Seq.deAsserted : Seq → Bool
  | .sending .write => true
  | .sending .awaitDone => true
  | .sending .releaseDe => true
  | _ => false

/-- The port events so far are in the order of R51 and R52, `DE` is 1 only between its assert and its release (R26), and the
release comes only after `SER.tx_done = 1` has been seen (R51). -/
structure LineInv (s : State) : Prop where
  order : ∃ p, linePhase s.cfg.dePresent s.events = some p ∧ p ∈ s.seq.linePhases s.cfg.dePresent
  de : s.de = (s.cfg.dePresent && s.seq.deAsserted)
  done : s.seq = .sending .releaseDe → s.txDone = true

/-- The bytes that `SER.read` returned since the last drain, in order (R143). -/
def readsSinceDrain (es : List PortEvent) : List Byte :=
  es.foldl (fun acc e => match e with | .flushRx => [] | .read bs => acc ++ bs | _ => acc) []

/-- The engine has entered the receive loop and not yet left `Validating`. -/
def Seq.holdsResponse (q : Seq) : Bool :=
  q.inLoop || match q with | .validating _ => true | _ => false

/-- RXBUF holds exactly what was read since the drain (R137, R143). -/
structure ReceivedInv (s : State) : Prop where
  sending : ∀ k, s.seq = .sending k → k ≠ .drain → (∀ pdu, k ≠ .build pdu) → readsSinceDrain s.events = []
  entry : s.seq = .awaitingResponse .enter → readsSinceDrain s.events = []
  loop : s.seq.holdsResponse = true → s.rxBytes = readsSinceDrain s.events

/-! ## Runs -/

/-- A transaction has just ended with error code `e` and `R_EXC` `x` (R196). -/
structure State.FailedWith (e : ErrCode) (x : Byte) (t : State) : Prop where
  seq : t.seq = .failed
  err : t.rErr = e
  exc : t.rExc = x
  ack : t.rAck = false
  count : t.rCount = 0#16

/-- The received checksum is the one computed over the bytes before it (R163). -/
def crcMatches (b : List Byte) : Prop :=
  (crc16 (b.take (b.length - 2))).toNat = (byteAt b (b.length - 2)).toNat + 256 * (byteAt b (b.length - 1)).toNat

/-- The moves of STATE, by number (R170): GO, a write of 1 to `CTRL.GO` (R15), from a resting state, the three moves of a transaction, reset. -/
def stateMove (t : Turn) (a b : Nat) : Bool :=
  decide (a = b) ||
    match t with
    | .host (.writeReg 8 v) => v.getLsbD 0 && decide (a = 0 ∨ a = 4 ∨ a = 5) && decide (b = 1 ∨ b = 5)
    | .engine => decide (a = 1 ∧ b = 2) || decide (a = 2 ∧ b = 3) || decide (a = 3 ∧ (b = 4 ∨ b = 5))
    | .boot _ => decide (b = 0)
    | _ => false

/-- The port events of sending `adu` (R132 to R134). -/
def sendEvents (dePresent : Bool) (adu : List Byte) : List PortEvent :=
  if dePresent then [.flushRx, .de true, .write adu, .de false] else [.flushRx, .write adu]

/-- The engine's turns from the build of the ADU to the entry of the receive loop, with the environment's `tx_done` where
R133 waits for it. -/
def sendTurns (dePresent : Bool) : List Turn :=
  if dePresent then [.engine, .engine, .engine, .engine, .env .txDone, .engine, .engine, .engine]
  else [.engine, .engine, .engine, .engine]

/-- One whole transaction whose response `resp` arrives in one piece before the first poll: GO, sending, the response, the
poll, the validator and the decode rule (R172). -/
def oneShot (dePresent : Bool) (resp : List Byte) : List Turn :=
  [.host (.writeReg ctrlReg 1#16)] ++ sendTurns dePresent ++
    [.env (.receive resp), .engine, .engine, .engine, .engine]

/-- GO reads an operand that the host has not written since reset: `FC`, for one of the eight codes `SLAVE` and `ADDR`, and what the
operation's row of R10 names, WCOIL and WREG from element 0 to `QTY - 1` (R212). -/
def State.operandMissing (s : State) : Prop :=
  s.written.fc = false ∨
  (knownFunction s.x.fc = true ∧ (s.written.slave = false ∨ s.written.addr = false)) ∨
  (knownFunction s.x.fc = true ∧ s.x.fc ≠ 0x05#8 ∧ s.x.fc ≠ 0x06#8 ∧ s.written.qty = false) ∨
  ((s.x.fc = 0x05#8 ∨ s.x.fc = 0x06#8) ∧ s.written.value = false) ∨
  ((s.x.fc = 0x03#8 ∨ s.x.fc = 0x04#8) ∧ s.written.signed = false) ∨
  (s.x.fc = 0x0F#8 ∧ ∃ k, k < s.x.qty.toNat ∧ Memory.read s.written.wcoil k = false) ∨
  (s.x.fc = 0x10#8 ∧ ∃ k, k < s.x.qty.toNat ∧ Memory.read s.written.wreg k = false)

/-- A turn that does not end the wait for `SER.tx_done`: any but the environment's `tx_done` and the bootstrap layer's (R135). -/
def Turn.leavesWait : Turn → Bool
  | .engine => true
  | .host _ => true
  | .env (.receive _) => true
  | .env .txDone => false
  | .env (.pass _) => true
  | .boot _ => false

/-- The call of operation `i` with `signed=g` loaded, and the schedule of one transaction as the agenda (R75, R172). -/
def State.calling (i : Instr) (g : Bool) (resp : List Byte) (s : State) : State :=
  { s.loadCall i g with agenda := oneShot s.cfg.dePresent resp }

/-- The outcome of running the whole agenda. -/
def State.runAgenda (s : State) : Host.Outcome State Fault Refusal :=
  Host.Core.run Sys2Proof.core s.agenda.length s

end Sys2Proof.Machine
end

