-- ==== Sys2Proof/Certificates/Slice0/Obligations.lean ====
section
/-! DEFINITION. The statements for the provers. Each docstring names the rule it formalises; a clause that rests on a choice
of the model says so and names its log entry. Everywhere: that the next turn stands in `agenda` and leaves it with the step
is the model's own form (log 5), that one call of `exec` is one step of the microprogram is the model's reading (log 6, 7), and
a step for a foreign operation while busy does nothing (log 11). That an operand register
which nothing has written since reset holds a free value in `s.operands`, and a GO that reads it runs, is the model's choice (log 33,
against R212). -/

open Sys2Proof Sys2Proof.Machine

/-! ## The CRC unit (40_crc16_engine.md) -/

/-- R92: the 256 printed constants are the ones its construction generates. -/
def Obligations.CrcTableIsTheGeneratedTable : Prop :=
  crcTable.length = 256 ∧ ∀ i : Byte, crcTableAt i = crcShift8 (i.setWidth 16)

/-- R93: the bit-serial update gives the same CRC after every byte as the table form. -/
def Obligations.CrcBitSerialFormAgrees : Prop :=
  ∀ (c : Word) (b : Byte), crcUpdateSerial c b = crcUpdate c b

/-- R97 (a) and (b): a message followed by its own checksum has checksum 0, and followed by the low byte alone it has the
high byte as checksum. -/
def Obligations.CrcOfMessageAndItsCrc : Prop :=
  ∀ m : List Byte, crc16 (m ++ le16 (crc16 m)) = 0#16 ∧
    crc16 (m ++ [lo8 (crc16 m)]) = (hi8 (crc16 m)).setWidth 16

/-! ## The codec's helpers and the frames (30_encoding.md, 41_pdu_codec.md) -/

/-- R109: the number of packed bytes, and every bit of every one of them. -/
def Obligations.PackBitsLayout : Prop :=
  ∀ b : List Bool, (packBits b).length = ceilDiv b.length 8 ∧
    ∀ j k, j < ceilDiv b.length 8 → k < 8 →
      (byteAt (packBits b) j).getLsbD k = if h : 8 * j + k < b.length then b[8 * j + k] else false

/-- R112: every element of `unpack_bits`, and that it inverts `pack_bits`. -/
def Obligations.UnpackBitsInvertsPackBits : Prop :=
  (∀ (p : List Byte) (q : Nat), q ≤ 8 * p.length → (unpackBits p q).length = q ∧
    ∀ i, i < q → ((unpackBits p q).getD i false).toNat = ((byteAt p (i / 8)) >>> (i % 8)).toNat % 2) ∧
  ∀ b : List Bool, unpackBits (packBits b) b.length = b

/-- R110: `pack_regs` gives two bytes an element, big-endian, and reads back. -/
def Obligations.PackRegsReadsBack : Prop :=
  ∀ v : List Word, (packRegs v).length = 2 * v.length ∧
    (∀ i (h : i < v.length), byteAt (packRegs v) (2 * i) = hi8 v[i] ∧ byteAt (packRegs v) (2 * i + 1) = lo8 v[i]) ∧
    unpackRegs (packRegs v) v.length = v

/-- A few request words of opcode_table.json and of 95_test_vectors.md section 3 decode to their operations. That a frame with a
code outside the eight is refused, and under which name, is the decoder's own (log 26): R72 speaks of GO. -/
def Obligations.RequestWordsDecode : Prop :=
  decode [0x01, 0x01, 0x00, 0x13, 0x00, 0x13, 0x8C, 0x02] = .ok (.readCoils 1 0x13 19, []) ∧
  decode [0x01, 0x04, 0x00, 0x08, 0x00, 0x02, 0xF0, 0x09] = .ok (.readInputRegisters 1 8 2, []) ∧
  decode [0x01, 0x05, 0x00, 0x10, 0xFF, 0x00, 0x8D, 0xFF] = .ok (.writeSingleCoil 1 0x10 0xFF00, []) ∧
  decode [0x11, 0x10, 0x00, 0x01, 0x00, 0x02, 0x04, 0x00, 0x0A, 0x01, 0x02, 0xC6, 0xF0] =
    .ok (.writeMultipleRegisters 0x11 1 [0x000A, 0x0102], []) ∧
  decode [0x01, 0x07, 0x00, 0x00, 0x00, 0x00] = .error (.unknownFunction 0x07)

/-- R60 to R64: decoding the request of any well-formed operation gives it back, and the bytes after the frame. -/
def Obligations.RequestsDecodeBack : Prop :=
  ∀ (i : Instr) (rest : List Byte), i.wf wmcCeiling = true → decode (encode i ++ rest) = .ok (i, rest)

/-- The other direction: a byte sequence that decodes is the encoding of what it decodes to. -/
def Obligations.DecodedBytesAreTheEncoding : Prop :=
  ∀ (bytes rest : List Byte) (i : Instr), decode bytes = .ok (i, rest) → bytes = encode i ++ rest

/-! ## GO: the encode rules (R100 to R108, R171) -/

/-- R101, R102: GO of a bit read: started with its PDU when the quantity is in 1 to 2000, else `InvalidParameter`; nothing
else changes. -/
def Obligations.BitReadsGo : Prop :=
  ∀ (s : State) (sl : Byte) (a q : Word), s.busy = false →
    exec (.readCoils sl a q) s = .next
      (if 1 ≤ q.toNat ∧ q.toNat ≤ 2000 then
        { s with rErr := .none, rExc := 0#8, rAck := false, rCount := 0#16,
                 txn := ⟨0x01#8, sl, a, q, s.operands.value, s.operands.signed, true⟩,
                 seq := .sending (.build [0x01#8, hi8 a, lo8 a, hi8 q, lo8 q]) }
       else
        { s with rErr := .invalidParameter, rExc := 0#8, rAck := false, rCount := 0#16,
                 txn := ⟨0x01#8, sl, a, q, s.operands.value, s.operands.signed, true⟩, seq := .failed }) ∧
    exec (.readDiscreteInputs sl a q) s = .next
      (if 1 ≤ q.toNat ∧ q.toNat ≤ 2000 then
        { s with rErr := .none, rExc := 0#8, rAck := false, rCount := 0#16,
                 txn := ⟨0x02#8, sl, a, q, s.operands.value, s.operands.signed, true⟩,
                 seq := .sending (.build [0x02#8, hi8 a, lo8 a, hi8 q, lo8 q]) }
       else
        { s with rErr := .invalidParameter, rExc := 0#8, rAck := false, rCount := 0#16,
                 txn := ⟨0x02#8, sl, a, q, s.operands.value, s.operands.signed, true⟩, seq := .failed })

/-- R103, R104: GO of a register read, with the bound 1 to 125; `SIGNED` is latched and not encoded. -/
def Obligations.RegisterReadsGo : Prop :=
  ∀ (s : State) (sl : Byte) (a q : Word), s.busy = false →
    exec (.readHoldingRegisters sl a q) s = .next
      (if 1 ≤ q.toNat ∧ q.toNat ≤ 125 then
        { s with rErr := .none, rExc := 0#8, rAck := false, rCount := 0#16,
                 txn := ⟨0x03#8, sl, a, q, s.operands.value, s.operands.signed, true⟩,
                 seq := .sending (.build [0x03#8, hi8 a, lo8 a, hi8 q, lo8 q]) }
       else
        { s with rErr := .invalidParameter, rExc := 0#8, rAck := false, rCount := 0#16,
                 txn := ⟨0x03#8, sl, a, q, s.operands.value, s.operands.signed, true⟩, seq := .failed }) ∧
    exec (.readInputRegisters sl a q) s = .next
      (if 1 ≤ q.toNat ∧ q.toNat ≤ 125 then
        { s with rErr := .none, rExc := 0#8, rAck := false, rCount := 0#16,
                 txn := ⟨0x04#8, sl, a, q, s.operands.value, s.operands.signed, true⟩,
                 seq := .sending (.build [0x04#8, hi8 a, lo8 a, hi8 q, lo8 q]) }
       else
        { s with rErr := .invalidParameter, rExc := 0#8, rAck := false, rCount := 0#16,
                 txn := ⟨0x04#8, sl, a, q, s.operands.value, s.operands.signed, true⟩, seq := .failed })

/-- R105, R106: GO of a single write: a coil takes the two patterns only, a register every pattern. -/
def Obligations.SingleWritesGo : Prop :=
  ∀ (s : State) (sl : Byte) (a v : Word), s.busy = false →
    exec (.writeSingleCoil sl a v) s = .next
      (if v = 0x0000#16 ∨ v = 0xFF00#16 then
        { s with rErr := .none, rExc := 0#8, rAck := false, rCount := 0#16,
                 txn := ⟨0x05#8, sl, a, s.operands.qty, v, s.operands.signed, false⟩,
                 seq := .sending (.build [0x05#8, hi8 a, lo8 a, hi8 v, lo8 v]) }
       else
        { s with rErr := .invalidParameter, rExc := 0#8, rAck := false, rCount := 0#16,
                 txn := ⟨0x05#8, sl, a, s.operands.qty, v, s.operands.signed, false⟩, seq := .failed }) ∧
    exec (.writeSingleRegister sl a v) s = .next
        { s with rErr := .none, rExc := 0#8, rAck := false, rCount := 0#16,
                 txn := ⟨0x06#8, sl, a, s.operands.qty, v, s.operands.signed, false⟩,
                 seq := .sending (.build [0x06#8, hi8 a, lo8 a, hi8 v, lo8 v]) }

/-- R107, R108: GO of a multiple write of a list of values, with the bounds 1 to `WMC_QTY_MAX` and 1 to 123. That a list longer
than 65535, which no content of `QTY` describes, latches its length modulo 65536 and is rejected is the model's reading (log 25). -/
def Obligations.MultipleWritesGo : Prop :=
  ∀ (s : State) (sl : Byte) (a : Word) (cs : List Bool) (rs : List Word), s.busy = false →
    exec (.writeMultipleCoils sl a cs) s = .next
      (if 1 ≤ cs.length ∧ cs.length ≤ s.cfg.wmcQtyMax then
        { s with rErr := .none, rExc := 0#8, rAck := false, rCount := 0#16,
                 txn := ⟨0x0F#8, sl, a, BitVec.ofNat 16 cs.length, s.operands.value, s.operands.signed, false⟩,
                 seq := .sending (.build ([0x0F#8, hi8 a, lo8 a, hi8 (BitVec.ofNat 16 cs.length),
                   lo8 (BitVec.ofNat 16 cs.length), BitVec.ofNat 8 (ceilDiv cs.length 8)] ++ packBits cs)) }
       else
        { s with rErr := .invalidParameter, rExc := 0#8, rAck := false, rCount := 0#16,
                 txn := ⟨0x0F#8, sl, a, BitVec.ofNat 16 cs.length, s.operands.value, s.operands.signed, false⟩, seq := .failed }) ∧
    exec (.writeMultipleRegisters sl a rs) s = .next
      (if 1 ≤ rs.length ∧ rs.length ≤ 123 then
        { s with rErr := .none, rExc := 0#8, rAck := false, rCount := 0#16,
                 txn := ⟨0x10#8, sl, a, BitVec.ofNat 16 rs.length, s.operands.value, s.operands.signed, false⟩,
                 seq := .sending (.build ([0x10#8, hi8 a, lo8 a, hi8 (BitVec.ofNat 16 rs.length),
                   lo8 (BitVec.ofNat 16 rs.length), BitVec.ofNat 8 (2 * rs.length)] ++ packRegs rs)) }
       else
        { s with rErr := .invalidParameter, rExc := 0#8, rAck := false, rCount := 0#16,
                 txn := ⟨0x10#8, sl, a, BitVec.ofNat 16 rs.length, s.operands.value, s.operands.signed, false⟩, seq := .failed })

/-- R100, R118: GO accepts exactly the well-formed operations, and the PDU it then holds is the one of the operation's
request frame; a rejected one ends in `InvalidParameter` with no port event and TXBUF untouched. -/
def Obligations.GoAcceptsExactlyTheWellFormed : Prop :=
  ∀ (i : Instr) (s : State), s.busy = false →
    (i.wf s.cfg.wmcQtyMax = true → ∃ t pdu, exec i s = .next t ∧ t.seq = .sending (.build pdu) ∧
      t.txn.slave :: pdu = encodeBody i ∧ t.txn.fc = i.functionCode ∧ t.rErr = .none ∧ t.events = s.events) ∧
    (i.wf s.cfg.wmcQtyMax = false → ∃ t, exec i s = .next t ∧ t.FailedWith .invalidParameter 0#8 ∧
      t.events = s.events ∧ t.txbuf = s.txbuf ∧ t.txlen = s.txlen ∧ t.de = s.de ∧ t.rxq = s.rxq)

/-- R72: GO with a function code outside the eight, written by the host, is `InvalidParameter` and sends nothing. -/
def Obligations.GoWithUnknownFunctionCode : Prop :=
  ∀ (s : State) (rest : List Turn) (v : Word), s.busy = false → knownFunction s.operands.fc = false →
    v.getLsbD 0 = true →
    s.agenda = .host (.writeReg 8 v) :: rest →
    step s = .next { s with agenda := rest, rErr := .invalidParameter, rExc := 0#8, rAck := false, rCount := 0#16,
                            txn := ⟨s.operands.fc, s.operands.slave, s.operands.addr, s.operands.qty, s.operands.value,
                              s.operands.signed,
                              decide (1 ≤ s.operands.fc.toNat) && decide (s.operands.fc.toNat ≤ 4)⟩,
                            seq := .failed }

/-- R181: a GO or any other host write while BUSY is ignored; of the two treatments that U4 allows the model takes this one
(log 12). -/
def Obligations.HostWritesWhileBusyAreIgnored : Prop :=
  ∀ (s : State) (rest : List Turn) (v : Word), s.busy = true →
    (∀ n, n ≤ 5 ∨ 8 ≤ n ∧ n ≤ 13 → s.agenda = .host (.writeReg n v) :: rest → step s = .next { s with agenda := rest }) ∧
    (∀ i, i < s.cfg.wmcQtyMax → s.agenda = .host (.writeElem .wcoil i v) :: rest → step s = .next { s with agenda := rest }) ∧
    (∀ i, i < 123 → s.agenda = .host (.writeElem .wreg i v) :: rest → step s = .next { s with agenda := rest }) ∧
    (∀ i, i < 2000 → s.agenda = .host (.writeElem .rbits i v) :: rest → step s = .next { s with agenda := rest }) ∧
    (∀ i, i < 125 → s.agenda = .host (.writeElem .rregs i v) :: rest → step s = .next { s with agenda := rest })

/-! ## A step runs the fetched operation -/

/-- R14, R55, R171: at the host's GO a step is `exec` of the operation in the operand registers, and the engine's turn of a
running transaction, which is also the turn an empty agenda leaves, is `exec` of the operation in TXN; the turn taken
leaves the agenda, which is the model's own field (log 5). R172: at rest the engine's turn does nothing more until the next GO.
Where GO reads no operand that is unwritten since reset, the operation is the one that the host wrote. That a GO answers a next state
where it does read such an operand is the model's choice (log 33), against R212: R212 and U1 have a model that tracks the writes
refuse that run, R36 has the read refused or faulted, and U1 gives any value to a model that cannot track them. -/
def Obligations.StepRunsTheFetchedOperation : Prop :=
  (∀ (s : State) (rest : List Turn) (v : Word), s.busy = false → v.getLsbD 0 = true →
    s.agenda = .host (.writeReg 8 v) :: rest →
    (∀ i, s.fetchCommand = some i → step s = exec i { s with agenda := rest }) ∧ ∃ t, step s = .next t) ∧
  (∀ s : State, ¬s.operandMissing → s.fetchCommand =
    decodeCommand s.x.fc s.x.slave s.x.addr s.x.qty s.x.value (Memory.readList 0 s.x.qty.toNat s.wcoil)
      (Memory.readList 0 s.x.qty.toNat s.wreg)) ∧
  (∀ (s : State) (rest : List Turn) (i : Instr), s.busy = true → s.fetchTxn = some i →
    (s.agenda = .engine :: rest → step s = exec i { s with agenda := rest }) ∧ (s.agenda = [] → step s = exec i s)) ∧
  (∀ (s : State) (rest : List Turn), s.busy = false →
    (s.agenda = .engine :: rest → step s = .next { s with agenda := rest }) ∧ (s.agenda = [] → step s = .next s))

/-- R75: the host writes of a call put the operation where GO fetches it, with nothing missing, and `x[5]` to the `signed=`
argument of a register read and to nothing else; taken as turns of the host they do exactly that. -/
def Obligations.LoadedCallIsFetched : Prop :=
  (∀ (i : Instr) (g : Bool) (s : State), Memory.wf s.wcoil = true → Memory.wf s.wreg = true →
    Memory.wf s.written.wcoil = true → Memory.wf s.written.wreg = true → i.wf wmcCeiling = true →
    (s.loadCall i g).fetchCommand = some i) ∧
  (∀ (i : Instr) (g : Bool) (s : State), s.busy = false → s.cfg.valid = true → BufferInv s → i.wf s.cfg.wmcQtyMax = true →
    ¬(s.loadCall i g).operandMissing ∧
    (∀ sl a q, i = .readHoldingRegisters sl a q ∨ i = .readInputRegisters sl a q → (s.loadCall i g).operands.signed = g) ∧
    ((∀ sl a q, i ≠ .readHoldingRegisters sl a q ∧ i ≠ .readInputRegisters sl a q) →
      (s.loadCall i g).operands.signed = s.operands.signed) ∧
    Host.Core.run Sys2Proof.core (callWrites i g).length { s with agenda := (callWrites i g).map Turn.host } =
      .next { s.loadCall i g with agenda := [] })

/-- R32, R55: after a GO that started it, the operation that the engine goes on fetching from TXN is the one that GO
fetched from the operand registers. -/
def Obligations.TxnKeepsTheOperation : Prop :=
  ∀ (i : Instr) (s t : State), s.busy = false → s.fetchCommand = some i → exec i s = .next t → t.busy = true →
    t.fetchTxn = some i

/-! ## Sending (R131 to R135) -/

/-- R131: the build writes slave address, PDU and checksum, low byte first, to TXBUF from offset 0, and nothing else of
memory. -/
def Obligations.BuildWritesTheAdu : Prop :=
  ∀ (i : Instr) (s : State) (pdu : List Byte), s.seq = .sending (.build pdu) → s.txn.fc = i.functionCode →
    Memory.wf s.txbuf = true →
    ∃ t, exec i s = .next t ∧
      t = { s with crc := crc16 (s.txn.slave :: pdu), txbuf := t.txbuf, txlen := pdu.length + 3,
                   seq := .sending .drain } ∧
      (∀ k, k < pdu.length + 3 → Memory.read t.txbuf k =
        byteAt (s.txn.slave :: pdu ++ [lo8 (crc16 (s.txn.slave :: pdu)), hi8 (crc16 (s.txn.slave :: pdu))]) k) ∧
      (∀ k, pdu.length + 3 ≤ k → Memory.read t.txbuf k = Memory.read s.txbuf k)

/-- R132: the drain empties `SER.RXQ` in one step and records nothing of the bytes. -/
def Obligations.DrainDiscardsTheQueue : Prop :=
  ∀ (i : Instr) (s : State), s.seq = .sending .drain → s.txn.fc = i.functionCode →
    exec i s = .next { s with rxq := [], events := s.events ++ [.flushRx],
                              seq := .sending (if s.cfg.dePresent then .assertDe else .write) }

/-- R133, R134: with a direction output: assert, write of the whole ADU, the seen `tx_done`, release, in four steps; without
one the write leads straight to `AwaitingResponse`. -/
def Obligations.TransmitSteps : Prop :=
  ∀ (i : Instr) (s : State), s.txn.fc = i.functionCode →
    (s.cfg.dePresent = true →
      (s.seq = .sending .assertDe →
        exec i s = .next { s with de := true, events := s.events ++ [.de true], seq := .sending .write }) ∧
      (s.seq = .sending .write →
        exec i s = .next { s with txDone := false, events := s.events ++ [.write s.txBytes], seq := .sending .awaitDone }) ∧
      (s.seq = .sending .awaitDone → s.txDone = false → exec i s = .next s) ∧
      (s.seq = .sending .awaitDone → s.txDone = true → exec i s = .next { s with seq := .sending .releaseDe }) ∧
      (s.seq = .sending .releaseDe →
        exec i s = .next { s with de := false, events := s.events ++ [.de false], seq := .awaitingResponse .enter })) ∧
    (s.cfg.dePresent = false → s.seq = .sending .write →
      exec i s = .next { s with txDone := false, events := s.events ++ [.write s.txBytes],
                                seq := .awaitingResponse .enter })

/-- R135, R223: as long as the environment does not raise `SER.tx_done`, the engine stays in `Sending`, however many steps it
takes by itself and whatever turns other agents take in between, but for a reset; `DE` stays as it is, and in a state that keeps
the line's invariant it is 1. -/
def Obligations.TxDoneWaitHasNoTimeout : Prop :=
  (∀ (s : State) (k : Nat), s.seq = .sending .awaitDone → s.txDone = false → s.agenda = [] →
    Host.Core.run Sys2Proof.core k s = .next s) ∧
  (∀ s : State, s.seq = .sending .awaitDone → LineInv s → s.de = true) ∧
  (∀ (s t : State) (k : Nat), s.seq = .sending .awaitDone → s.txDone = false →
    (∀ u, u ∈ s.agenda → u.leavesWait = true) → Host.Core.run Sys2Proof.core k s = .next t →
    t.seq = .sending .awaitDone ∧ t.txDone = false ∧ t.de = s.de)

/-! ## Receiving (R136 to R145) -/

/-- R136: entry to the receive loop. -/
def Obligations.EnterReceiveLoop : Prop :=
  ∀ (i : Instr) (s : State), s.seq = .awaitingResponse .enter → s.txn.fc = i.functionCode →
    exec i s = .next { s with rxlen := 0, tStart := s.now, tLast := s.now, seq := .awaitingResponse .readNow } ∧
    s.cfg.tIdle = max s.cfg.tIdleMs s.cfg.tCharMs

/-- R137: one iteration of the receive loop: the reading of NOW; a poll that finds bytes; a poll that finds none; the wait. That
the reading of NOW is a step of its own and that the wait is counted from NOW at the end of the poll is the model's reading
(log 18, 19). -/
def Obligations.ReceiveLoopIteration : Prop :=
  ∀ (i : Instr) (s : State), s.txn.fc = i.functionCode →
    (s.seq = .awaitingResponse .readNow → exec i s = .next { s with seq := .awaitingResponse (.poll s.now) }) ∧
    (∀ t, s.seq = .awaitingResponse (.poll t) → s.rxq ≠ [] → Memory.wf s.rxbuf = true →
      ∃ u, exec i s = .next u ∧
        u = { s with rxq := s.rxq.drop (min s.rxq.length (s.cfg.rxCap - s.rxlen)), rxbuf := u.rxbuf,
                     rxlen := s.rxlen + min s.rxq.length (s.cfg.rxCap - s.rxlen), tLast := t,
                     events := s.events ++ [.read (s.rxq.take (min s.rxq.length (s.cfg.rxCap - s.rxlen)))],
                     seq := if complete u.rxBytes = true ∨ u.rxlen = s.cfg.rxCap ∨ s.tStart + s.cfg.tRespMs ≤ t
                            then .validating .check else .awaitingResponse (.pause (s.now + s.cfg.tPollMs)) } ∧
        u.rxBytes = s.rxBytes ++ s.rxq.take (min s.rxq.length (s.cfg.rxCap - s.rxlen)) ∧
        ∀ k, k < s.rxlen ∨ s.rxlen + min s.rxq.length (s.cfg.rxCap - s.rxlen) ≤ k →
          Memory.read u.rxbuf k = Memory.read s.rxbuf k) ∧
    (∀ t, s.seq = .awaitingResponse (.poll t) → s.rxq = [] →
      exec i s = .next { s with
        seq := if (0 < s.rxlen ∧ s.tLast + s.cfg.tIdle ≤ t) ∨ s.tStart + s.cfg.tRespMs ≤ t
               then .validating .check else .awaitingResponse (.pause (s.now + s.cfg.tPollMs)) }) ∧
    (∀ w, s.seq = .awaitingResponse (.pause w) →
      exec i s = .next (if w ≤ s.now then { s with seq := .awaitingResponse .readNow } else s))

/-- R140: `T_CHAR_MS` is the least number of milliseconds not below `1000 * B / BAUD`. -/
def Obligations.CharacterTimeRoundsUp : Prop :=
  ∀ c : Cfg, 0 < c.baud →
    1000 * (1 + c.dataBits + (if c.parity = .none then 0 else 1) + c.stopBits) ≤ c.tCharMs * c.baud ∧
    ∀ k, 1000 * (1 + c.dataBits + (if c.parity = .none then 0 else 1) + c.stopBits) ≤ k * c.baud → c.tCharMs ≤ k

/-- R143, R66 to R70: every well-formed response frame is complete, a bit response whatever its padding bits are (D29), and no proper
beginning of it is. -/
def Obligations.ResponseFramesCompleteExactlyAtTheirEnd : Prop :=
  ∀ f : List Byte,
    ((∃ sl fc data, (fc = 0x01#8 ∨ fc = 0x02#8) ∧ 1 ≤ data.length ∧ data.length ≤ 250 ∧ f = rspBits sl fc data) ∨
     (∃ sl fc regs, (fc = 0x03#8 ∨ fc = 0x04#8) ∧ 1 ≤ regs.length ∧ regs.length ≤ 125 ∧ f = rspRegs sl fc regs) ∨
     (∃ sl fc a v, (fc = 0x05#8 ∨ fc = 0x06#8 ∨ fc = 0x0F#8 ∨ fc = 0x10#8) ∧ f = rspEcho sl fc a v) ∨
     (∃ sl fc code, knownFunction fc = true ∧ f = rspExc sl fc code)) →
    complete f = true ∧ ∀ k, k < f.length → complete (f.take k) = false

/-- R143: what RXBUF holds inside the loop and in `Validating` is exactly what was read since the drain, in every step. -/
def Obligations.StepKeepsReceivedBytes : Prop :=
  ∀ s t : State, BufferInv s → ReceivedInv s → step s = .next t → ReceivedInv t

/-! ## Validating (R160 to R169) -/

/-- R161 to R167: the checks, in order, and the payload. -/
def Obligations.ValidatorChecksInOrder : Prop :=
  ∀ (i : Instr) (s : State), s.seq = .validating .check → s.txn.fc = i.functionCode →
    ∃ t, exec i s = .next t ∧
      t = { s with crc := t.crc, rErr := t.rErr, rExc := t.rExc, rAck := t.rAck, rCount := t.rCount, seq := t.seq } ∧
      (s.rxlen = 0 → t.FailedWith .noResponse 0#8) ∧
      (1 ≤ s.rxlen → s.rxlen ≤ 3 → t.FailedWith .unexpectedLength 0#8) ∧
      (4 ≤ s.rxlen → ¬crcMatches s.rxBytes → t.FailedWith .crcMismatch 0#8) ∧
      (4 ≤ s.rxlen → crcMatches s.rxBytes → byteAt s.rxBytes 0 ≠ s.txn.slave → t.FailedWith .addressMismatch 0#8) ∧
      (4 ≤ s.rxlen → crcMatches s.rxBytes → byteAt s.rxBytes 0 = s.txn.slave →
        (byteAt s.rxBytes 1).toNat = i.functionCode.toNat + 0x80 →
          (s.rxlen = 4 → t.FailedWith .unexpectedLength 0#8) ∧
          (5 ≤ s.rxlen → t.FailedWith .slaveException (byteAt s.rxBytes 2))) ∧
      (4 ≤ s.rxlen → crcMatches s.rxBytes → byteAt s.rxBytes 0 = s.txn.slave →
        (byteAt s.rxBytes 1).toNat ≠ i.functionCode.toNat + 0x80 → s.txn.counted = true →
          (s.rxlen = 4 ∨ (byteAt s.rxBytes 2).toNat ≠ s.rxlen - 5 → t.FailedWith .unexpectedLength 0#8) ∧
          (5 ≤ s.rxlen → (byteAt s.rxBytes 2).toNat = s.rxlen - 5 →
            t = { s with crc := t.crc, seq := .validating (.decode ((s.rxBytes.drop 3).take (s.rxlen - 5))) })) ∧
      (4 ≤ s.rxlen → crcMatches s.rxBytes → byteAt s.rxBytes 0 = s.txn.slave →
        (byteAt s.rxBytes 1).toNat ≠ i.functionCode.toNat + 0x80 → s.txn.counted = false →
          (s.rxlen ≠ 8 → t.FailedWith .unexpectedLength 0#8) ∧
          (s.rxlen = 8 → t = { s with crc := t.crc, seq := .validating (.decode ((s.rxBytes.drop 2).take 4)) }))

/-- R220: a buffer that the validator accepts is rejected on length with one or two stray zero bytes after it. -/
def Obligations.StrayZeroBytesAreRejectedOnLength : Prop :=
  ∀ (b payload : List Byte) (txn : Txn), validate b txn = .ok payload →
    validate (b ++ [0x00#8]) txn = .error .unexpectedLength ∧
    validate (b ++ [0x00#8, 0x00#8]) txn = .error .unexpectedLength

/-- R168: a frame with a good checksum, the right address and a fitting length is accepted whatever its function code, but
for the request's own exception marker. -/
def Obligations.ForeignFunctionCodeIsAccepted : Prop :=
  ∀ (txn : Txn) (fc : Byte) (data : List Byte), fc.toNat ≠ txn.fc.toNat + 0x80 →
    (txn.counted = true → data.length < 256 →
      validate (frame ([txn.slave, fc, BitVec.ofNat 8 data.length] ++ data)) txn = .ok data) ∧
    (txn.counted = false → data.length = 4 → validate (frame ([txn.slave, fc] ++ data)) txn = .ok data)

/-- R161, R192: when the overall bound expires with no byte received, the transaction ends in `NoResponse`. -/
def Obligations.SilenceEndsInNoResponse : Prop :=
  ∀ (i : Instr) (s : State) (t : Nat), s.seq = .awaitingResponse (.poll t) → s.fetchTxn = some i → s.agenda = [] →
    s.rxq = [] → s.rxlen = 0 → s.tStart + s.cfg.tRespMs ≤ t →
    ∃ u, Host.Core.run Sys2Proof.core 2 s = .next u ∧ u.FailedWith .noResponse 0#8 ∧ u.events = s.events

/-! ## Decoding (R113 to R116) -/

/-- R113: the decode of a bit response, and what the host then reads from each element (R13). That the elements from QTY on keep
their content is the model's choice (log 32): R13 and U2 give them no value. -/
def Obligations.BitResponsesDecode : Prop :=
  ∀ (i : Instr) (s : State) (p : List Byte) (sl : Byte) (a q : Word),
    i = .readCoils sl a q ∨ i = .readDiscreteInputs sl a q →
    s.seq = .validating (.decode p) → s.txn.fc = i.functionCode → Memory.wf s.rbits = true →
    (p.length = ceilDiv s.txn.qty.toNat 8 → ∃ t, exec i s = .next t ∧
      t = { s with rbits := t.rbits, rCount := s.txn.qty, seq := .completed } ∧
      (∀ j, Memory.read t.rbits j =
        if j < s.txn.qty.toNat then (byteAt p (j / 8)).getLsbD (j % 8) else Memory.read s.rbits j) ∧
      ∀ j, j < s.txn.qty.toNat → (t.hostReadElem .rbits j).hostData =
        if (byteAt p (j / 8)).getLsbD (j % 8) = true then 1 else 0) ∧
    (p.length ≠ ceilDiv s.txn.qty.toNat 8 → exec i s = .next
      { s with rErr := .unexpectedLength, rExc := 0#8, rAck := false, rCount := 0#16, seq := .failed })

/-- R114: the decode of a register response, and the integer the host then reads from each element. That the elements from QTY
on keep their content is the model's choice (log 32): R13 and U2 give them no value. -/
def Obligations.RegisterResponsesDecode : Prop :=
  ∀ (i : Instr) (s : State) (p : List Byte) (sl : Byte) (a q : Word),
    i = .readHoldingRegisters sl a q ∨ i = .readInputRegisters sl a q →
    s.seq = .validating (.decode p) → s.txn.fc = i.functionCode → Memory.wf s.rregs = true →
    (p.length = 2 * s.txn.qty.toNat → ∃ t, exec i s = .next t ∧
      t = { s with rregs := t.rregs, rCount := s.txn.qty, seq := .completed } ∧
      (∀ j, Memory.read t.rregs j =
        if j < s.txn.qty.toNat then ofHiLo (byteAt p (2 * j)) (byteAt p (2 * j + 1)) else Memory.read s.rregs j) ∧
      ∀ j, j < s.txn.qty.toNat → (t.hostReadElem .rregs j).hostData =
        if s.txn.signed = true then sext16 (ofHiLo (byteAt p (2 * j)) (byteAt p (2 * j + 1)))
        else zext16 (ofHiLo (byteAt p (2 * j)) (byteAt p (2 * j + 1)))) ∧
    (p.length ≠ 2 * s.txn.qty.toNat → exec i s = .next
      { s with rErr := .unexpectedLength, rExc := 0#8, rAck := false, rCount := 0#16, seq := .failed })

/-- R115: the decode of a single-write echo: acknowledged exactly when address and value are echoed, never an error. -/
def Obligations.SingleWriteEchoesDecode : Prop :=
  ∀ (i : Instr) (s : State) (p : List Byte) (sl : Byte) (a v : Word),
    i = .writeSingleCoil sl a v ∨ i = .writeSingleRegister sl a v →
    s.seq = .validating (.decode p) → s.txn.fc = i.functionCode → p.length = 4 →
    ∃ t, exec i s = .next t ∧ t = { s with rAck := t.rAck, seq := .completed } ∧
      (t.rAck = true ↔ p = [hi8 s.txn.addr, lo8 s.txn.addr, hi8 s.txn.value, lo8 s.txn.value])

/-- R116: the decode of a multiple-write echo: acknowledged exactly when address and quantity are echoed. -/
def Obligations.MultipleWriteEchoesDecode : Prop :=
  ∀ (i : Instr) (s : State) (p : List Byte) (sl : Byte) (a : Word) (cs : List Bool) (rs : List Word),
    i = .writeMultipleCoils sl a cs ∨ i = .writeMultipleRegisters sl a rs →
    s.seq = .validating (.decode p) → s.txn.fc = i.functionCode → p.length = 4 →
    ∃ t, exec i s = .next t ∧ t = { s with rAck := t.rAck, seq := .completed } ∧
      (t.rAck = true ↔ p = [hi8 s.txn.addr, lo8 s.txn.addr, hi8 s.txn.qty, lo8 s.txn.qty])

/-! ## Whole operations (R173 to R180) -/

/-- R173, R174: a bit read whose response reports the bits, whatever the padding bits of its last byte are (R113, D29), ends
`Completed` with them, after sending exactly its request; a host read of an element then gives the bit (R13). -/
def Obligations.BitReadTransaction : Prop :=
  ∀ (s : State) (i : Instr) (g : Bool) (sl : Byte) (a : Word) (bits : List Bool) (data : List Byte),
    i = .readCoils sl a (BitVec.ofNat 16 bits.length) ∨ i = .readDiscreteInputs sl a (BitVec.ofNat 16 bits.length) →
    s.busy = false → s.cfg.valid = true → BufferInv s → 1 ≤ bits.length → bits.length ≤ 2000 →
    data.length = ceilDiv bits.length 8 → (∀ j (h : j < bits.length), (byteAt data (j / 8)).getLsbD (j % 8) = bits[j]) →
    ∃ t, (s.calling i g (rspBits sl i.functionCode data)).runAgenda = .next t ∧
      t.seq = .completed ∧ t.rErr = .none ∧ t.rExc = 0#8 ∧ t.rAck = false ∧ t.rCount.toNat = bits.length ∧
      (∀ j (h : j < bits.length), Memory.read t.rbits j = bits[j] ∧
        (t.hostReadElem .rbits j).hostData = if bits[j] = true then 1 else 0) ∧
      t.events = s.events ++ sendEvents s.cfg.dePresent (encode i) ++ [.read (rspBits sl i.functionCode data)] ∧
      t.rxq = [] ∧ t.agenda = []

/-- R175, R176: a register read whose response reports the registers ends `Completed` with them; a host read of an element
then gives it signed or unsigned as the call's `signed=` argument says (R13, R75). -/
def Obligations.RegisterReadTransaction : Prop :=
  ∀ (s : State) (i : Instr) (g : Bool) (sl : Byte) (a : Word) (regs : List Word),
    i = .readHoldingRegisters sl a (BitVec.ofNat 16 regs.length) ∨ i = .readInputRegisters sl a (BitVec.ofNat 16 regs.length) →
    s.busy = false → s.cfg.valid = true → BufferInv s → 1 ≤ regs.length → regs.length ≤ 125 →
    ∃ t, (s.calling i g (rspRegs sl i.functionCode regs)).runAgenda = .next t ∧
      t.seq = .completed ∧ t.rErr = .none ∧ t.rExc = 0#8 ∧ t.rAck = false ∧ t.rCount.toNat = regs.length ∧
      (∀ j (h : j < regs.length), Memory.read t.rregs j = regs[j] ∧
        (t.hostReadElem .rregs j).hostData =
          if g = false ∨ regs[j].toNat < 0x8000 then (regs[j].toNat : Int) else (regs[j].toNat : Int) - 0x10000) ∧
      t.events = s.events ++ sendEvents s.cfg.dePresent (encode i) ++ [.read (rspRegs sl i.functionCode regs)] ∧
      t.rxq = [] ∧ t.agenda = []

/-- R177, R178: a single write ends `Completed` on any echo frame, acknowledged exactly when the echo is of its own address and
value; a coil value is one of the two patterns. -/
def Obligations.SingleWriteTransaction : Prop :=
  ∀ (s : State) (i : Instr) (g : Bool) (sl : Byte) (a v a' v' : Word),
    (i = .writeSingleCoil sl a v ∧ (v = 0x0000#16 ∨ v = 0xFF00#16)) ∨ i = .writeSingleRegister sl a v →
    s.busy = false → s.cfg.valid = true → BufferInv s →
    ∃ t, (s.calling i g (rspEcho sl i.functionCode a' v')).runAgenda = .next t ∧
      t.seq = .completed ∧ t.rErr = .none ∧ t.rExc = 0#8 ∧ t.rCount = 0#16 ∧
      (t.rAck = true ↔ a' = a ∧ v' = v) ∧
      t.events = s.events ++ sendEvents s.cfg.dePresent (encode i) ++ [.read (rspEcho sl i.functionCode a' v')] ∧
      t.rxq = [] ∧ t.agenda = []

/-- R179, R180: a multiple write ends `Completed` on any echo frame, acknowledged exactly when the echo is of its own address
and quantity. -/
def Obligations.MultipleWriteTransaction : Prop :=
  ∀ (s : State) (i : Instr) (g : Bool) (sl : Byte) (a a' q' : Word) (cs : List Bool) (rs : List Word) (q : Nat),
    (i = .writeMultipleCoils sl a cs ∧ q = cs.length ∧ q ≤ s.cfg.wmcQtyMax) ∨
      (i = .writeMultipleRegisters sl a rs ∧ q = rs.length ∧ q ≤ 123) → 1 ≤ q →
    s.busy = false → s.cfg.valid = true → BufferInv s →
    ∃ t, (s.calling i g (rspEcho sl i.functionCode a' q')).runAgenda = .next t ∧
      t.seq = .completed ∧ t.rErr = .none ∧ t.rExc = 0#8 ∧ t.rCount = 0#16 ∧
      (t.rAck = true ↔ a' = a ∧ q'.toNat = q) ∧
      t.events = s.events ++ sendEvents s.cfg.dePresent (encode i) ++ [.read (rspEcho sl i.functionCode a' q')] ∧
      t.rxq = [] ∧ t.agenda = []

/-- R165, R195: any accepted operation whose slave answers with an exception frame ends `Failed` with the slave's code. -/
def Obligations.ExceptionResponseTransaction : Prop :=
  ∀ (s : State) (i : Instr) (g : Bool) (code : Byte), s.busy = false → s.cfg.valid = true → BufferInv s →
    i.wf s.cfg.wmcQtyMax = true →
    ∃ t, (s.calling i g (rspExc (callOperands i s.x).slave i.functionCode code)).runAgenda = .next t ∧
      t.FailedWith .slaveException code ∧
      t.events = s.events ++ sendEvents s.cfg.dePresent (encode i) ++
        [.read (rspExc (callOperands i s.x).slave i.functionCode code)] ∧
      t.de = (if s.cfg.dePresent then false else s.de)

/-- R33, R52: stale bytes in `SER.RXQ` at GO make no difference to anything after the drain. -/
def Obligations.StaleBytesMakeNoDifference : Prop :=
  ∀ (s : State) (i : Instr) (g : Bool) (stale : List Byte), s.busy = false → i.wf s.cfg.wmcQtyMax = true →
    Memory.wf s.wcoil = true → Memory.wf s.wreg = true → Memory.wf s.written.wcoil = true →
    Memory.wf s.written.wreg = true → s.cfg.wmcQtyMax ≤ wmcCeiling →
    ∃ t, Host.Core.run Sys2Proof.core 3 { s.loadCall i g with agenda := [.host (.writeReg 8 1#16)] } = .next t ∧ t.rxq = [] ∧
      Host.Core.run Sys2Proof.core 3 { s.loadCall i g with agenda := [.host (.writeReg 8 1#16)], rxq := stale } = .next t

/-! ## Errors and whole-machine rules -/

/-- R190, R191, R196, R199: a transaction enters `Failed` only by `InvalidParameter` at a GO of the host (a write of 1 to `CTRL.GO`, R15), with no port event and `DE`
as it was, or from `Validating` by one of the five others, and keeps TXBUF and RXBUF. -/
def Obligations.FailedIsEnteredOnlyByRaise : Prop :=
  ∀ s t : State, step s = .next t → s.seq ≠ .failed ∨ t.txn ≠ s.txn → t.seq = .failed →
    t.txbuf = s.txbuf ∧ t.rxbuf = s.rxbuf ∧ t.events = s.events ∧ t.de = s.de ∧ t.rAck = false ∧ t.rCount = 0#16 ∧
    ((s.busy = false ∧ t.rErr = .invalidParameter ∧ t.rExc = 0#8 ∧ ∃ v rest, v.getLsbD 0 = true ∧ s.agenda = .host (.writeReg 8 v) :: rest) ∨
     (∃ k, s.seq = .validating k ∧ t.rErr ≠ .none ∧ t.rErr ≠ .invalidParameter ∧ (t.rErr ≠ .slaveException → t.rExc = 0#8)))

/-- R170: STATE takes exactly the transitions of its table: GO (a write to CTRL with bit 0 set, R15) from a resting state, the engine's three moves, reset. -/
def Obligations.StateTakesOnlyItsTransitions : Prop :=
  ∀ s t : State, step s = .next t → stateMove (s.agenda.headD .engine) s.seq.code t.seq.code = true

/-- R11, R12, R21, R27: no operation writes an operand register, a write-data window, CFG or the time base, nor, in the model's
own fields, the agenda or what a host read returned; it takes bytes from the head of `SER.RXQ` only (R22, R23) and never raises
`SER.tx_done` (R25). -/
def Obligations.OperationsLeaveTheHostsSideAlone : Prop :=
  ∀ (i : Instr) (s : State), ∃ t, exec i s = .next t ∧ t.x = s.x ∧ t.wcoil = s.wcoil ∧ t.wreg = s.wreg ∧ t.cfg = s.cfg ∧
    t.now = s.now ∧ t.agenda = s.agenda ∧ t.hostData = s.hostData ∧ t.freeCount = s.freeCount ∧
    t.resets = s.resets ∧ t.written = s.written ∧ (s.txDone = false → t.txDone = false) ∧ (∃ taken, s.rxq = taken ++ t.rxq) ∧
    ∃ es, t.events = s.events ++ es

/-- The result windows are written only by the decode rule of a read that fills them (R13, R113, R114). -/
def Obligations.ResultWindowsAreWrittenOnlyByReads : Prop :=
  ∀ (i : Instr) (s : State), ∃ t, exec i s = .next t ∧
    (t.rbits ≠ s.rbits → t.seq = .completed ∧ (i.functionCode = 0x01#8 ∨ i.functionCode = 0x02#8)) ∧
    (t.rregs ≠ s.rregs → t.seq = .completed ∧ (i.functionCode = 0x03#8 ∨ i.functionCode = 0x04#8))

/-! ## Invariants -/

/-- R36: the state after reset meets every invariant. That its buffers list nothing, its queue is empty and its
configuration is the default are the model's choices (log 2, 3, 4). -/
def Obligations.ResetMeetsTheInvariants : Prop :=
  TxnInv State.reset ∧ BufferInv State.reset ∧ LengthInv State.reset ∧ ResultInv State.reset ∧ ClockInv State.reset ∧
    LineInv State.reset ∧ ReceivedInv State.reset

/-- R32, R100: in every step a running transaction stays one that its encode rule accepted. -/
def Obligations.StepKeepsTheRunningTransaction : Prop :=
  ∀ s t : State, TxnInv s → step s = .next t → TxnInv t

/-- R40: in every step the buffers keep their canonical form and stay inside their arrays. -/
def Obligations.StepKeepsTheBuffersInBounds : Prop :=
  ∀ s t : State, TxnInv s → LengthInv s → BufferInv s → step s = .next t → BufferInv t

/-- R28, R29, R139: in every step TXLEN stays at most 255, RXLEN at most RX_CAP, and below it inside the loop. -/
def Obligations.StepKeepsTheLengths : Prop :=
  ∀ s t : State, TxnInv s → LengthInv s → step s = .next t → LengthInv t

/-- R17 to R20: in every step `R_ERR`, `R_EXC`, `R_ACK` and `R_COUNT` keep their invariants. -/
def Obligations.StepKeepsTheResultRegisters : Prop :=
  ∀ s t : State, TxnInv s → ResultInv s → step s = .next t → ResultInv t

/-- R27, R30: in every step the saved readings of NOW stay in order. -/
def Obligations.StepKeepsTheClock : Prop :=
  ∀ s t : State, ClockInv s → step s = .next t → ClockInv t

/-- R26, R51, R52, R214: in every step the port events stay in the safety-critical order, and `DE` is 1 only between its assert
and its release. -/
def Obligations.StepKeepsTheLineOrder : Prop :=
  ∀ s t : State, LineInv s → step s = .next t → LineInv t

/-! ## The host interface and reset (R10 to R20, R210) -/

/-- R16: STATUS, read at any time. -/
def Obligations.HostReadsStatus : Prop :=
  ∀ (s : State) (rest : List Turn), s.agenda = .host (.readReg 9) :: rest →
    step s = .next { s with agenda := rest,
                            hostData := (s.seq.code : Int) + (if s.busy = true then 8 else 0) + (if s.done = true then 16 else 0) } ∧
    (s.busy = true ↔ s.seq.code = 1 ∨ s.seq.code = 2 ∨ s.seq.code = 3) ∧ (s.done = true ↔ s.seq.code = 4 ∨ s.seq.code = 5)

/-- R15, R17 to R20, R182: CTRL reads 0 at any time; `R_ERR`, `R_EXC` and `R_ACK` read as what they hold while DONE and in
`Idle`, `R_COUNT` while DONE. R13, R47: in `Completed` an element below `R_COUNT` of the window that the operation filled reads as
what it holds, a register signed or unsigned as `TXN.SIGNED` says. R34, R47: no host read of an existing register or
element, defined or not, changes anything but what it returns and the count of free values (log 13). -/
def Obligations.HostReadsResultRegisters : Prop :=
  ∀ (s : State) (rest : List Turn),
    (s.agenda = .host (.readReg 8) :: rest → step s = .next { s with agenda := rest, hostData := 0 }) ∧
    (s.done = true ∨ s.seq = .idle →
      (s.agenda = .host (.readReg 10) :: rest → step s = .next { s with agenda := rest, hostData := s.rErr.number }) ∧
      (s.agenda = .host (.readReg 11) :: rest → step s = .next { s with agenda := rest, hostData := s.rExc.toNat }) ∧
      (s.agenda = .host (.readReg 12) :: rest → step s = .next { s with agenda := rest, hostData := s.rAck.toNat })) ∧
    (s.done = true → s.agenda = .host (.readReg 13) :: rest →
      step s = .next { s with agenda := rest, hostData := s.rCount.toNat }) ∧
    (∀ j, s.seq = .completed → j < s.rCount.toNat → j < 2000 → s.txn.fc = 0x01#8 ∨ s.txn.fc = 0x02#8 →
      s.agenda = .host (.readElem .rbits j) :: rest →
      step s = .next { s with agenda := rest, hostData := if Memory.read s.rbits j = true then 1 else 0 }) ∧
    (∀ j, s.seq = .completed → j < s.rCount.toNat → j < 125 → s.txn.fc = 0x03#8 ∨ s.txn.fc = 0x04#8 →
      s.agenda = .host (.readElem .rregs j) :: rest →
      step s = .next { s with agenda := rest,
                              hostData := if s.txn.signed = true then sext16 (Memory.read s.rregs j)
                                          else zext16 (Memory.read s.rregs j) }) ∧
    (∀ n, n ≤ 5 ∨ 8 ≤ n ∧ n ≤ 13 → s.agenda = .host (.readReg n) :: rest →
      ∃ t, step s = .next t ∧ t = { s with agenda := rest, hostData := t.hostData, freeCount := t.freeCount } ∧
        (t.freeCount = s.freeCount ∨ t.freeCount = s.freeCount + 1)) ∧
    (∀ w j, j < s.windowCap w → s.agenda = .host (.readElem w j) :: rest →
      ∃ t, step s = .next t ∧ t = { s with agenda := rest, hostData := t.hostData, freeCount := t.freeCount } ∧
        (t.freeCount = s.freeCount ∨ t.freeCount = s.freeCount + 1))

/-- R10, R11: at rest the host writes each operand register; that a value of the 16-bit data path leaves the low bits that fit
is the model's reading (log 16). The register counts as written from then on (R212). R15, U13: a write to CTRL with bit 0 clear, and a
write to a read-only register, changes nothing. -/
def Obligations.HostWritesOperandRegisters : Prop :=
  ∀ (s : State) (rest : List Turn) (v : Word), s.busy = false →
    (s.agenda = .host (.writeReg 0 v) :: rest →
      step s = .next { s with agenda := rest, x := { s.x with fc := lo8 v }, written := { s.written with fc := true } }) ∧
    (s.agenda = .host (.writeReg 1 v) :: rest →
      step s = .next { s with agenda := rest, x := { s.x with slave := lo8 v }, written := { s.written with slave := true } }) ∧
    (s.agenda = .host (.writeReg 2 v) :: rest →
      step s = .next { s with agenda := rest, x := { s.x with addr := v }, written := { s.written with addr := true } }) ∧
    (s.agenda = .host (.writeReg 3 v) :: rest →
      step s = .next { s with agenda := rest, x := { s.x with qty := v }, written := { s.written with qty := true } }) ∧
    (s.agenda = .host (.writeReg 4 v) :: rest →
      step s = .next { s with agenda := rest, x := { s.x with value := v }, written := { s.written with value := true } }) ∧
    (s.agenda = .host (.writeReg 5 v) :: rest →
      step s = .next { s with agenda := rest, x := { s.x with signed := v.getLsbD 0 },
                              written := { s.written with signed := true } }) ∧
    (v.getLsbD 0 = false → s.agenda = .host (.writeReg 8 v) :: rest → step s = .next { s with agenda := rest }) ∧
    (∀ n, 9 ≤ n → n ≤ 13 → s.agenda = .host (.writeReg n v) :: rest → step s = .next { s with agenda := rest })

/-- R12, R47: at rest the host writes one element of WCOIL or WREG and no other, a coil with the low bit of the value (log 16), and it
counts as written from then on (R212); a host write to a result window is ignored (U13). -/
def Obligations.HostWritesWindowElements : Prop :=
  ∀ (s : State) (rest : List Turn) (k : Nat) (v : Word), s.busy = false → BufferInv s →
    (k < s.cfg.wmcQtyMax → s.agenda = .host (.writeElem .wcoil k v) :: rest →
      ∃ t, step s = .next t ∧
        t = { s with agenda := rest, wcoil := t.wcoil, written := { s.written with wcoil := t.written.wcoil } } ∧
        (∀ j, Memory.read t.wcoil j = if j = k then v.getLsbD 0 else Memory.read s.wcoil j) ∧
        ∀ j, Memory.read t.written.wcoil j = if j = k then true else Memory.read s.written.wcoil j) ∧
    (k < 123 → s.agenda = .host (.writeElem .wreg k v) :: rest →
      ∃ t, step s = .next t ∧
        t = { s with agenda := rest, wreg := t.wreg, written := { s.written with wreg := t.written.wreg } } ∧
        (∀ j, Memory.read t.wreg j = if j = k then v else Memory.read s.wreg j) ∧
        ∀ j, Memory.read t.written.wreg j = if j = k then true else Memory.read s.written.wreg j) ∧
    (k < 2000 → s.agenda = .host (.writeElem .rbits k v) :: rest → step s = .next { s with agenda := rest }) ∧
    (k < 125 → s.agenda = .host (.writeElem .rregs k v) :: rest → step s = .next { s with agenda := rest })

/-- U13: a register number that does not exist is refused. The model's choice (log 15): an element outside its window (R40)
faults. -/
def Obligations.NonexistentPlacesStop : Prop :=
  ∀ (s : State) (rest : List Turn) (n : Nat) (v : Word) (w : Window),
    (¬(n ≤ 5 ∨ 8 ≤ n ∧ n ≤ 13) →
      (s.agenda = .host (.writeReg n v) :: rest → step s = .refused (.noSuchRegister n)) ∧
      (s.agenda = .host (.readReg n) :: rest → step s = .refused (.noSuchRegister n))) ∧
    (s.windowCap w ≤ n →
      (s.agenda = .host (.writeElem w n v) :: rest → step s = .fault (.noSuchElement w n)) ∧
      (s.agenda = .host (.readElem w n) :: rest → step s = .fault (.noSuchElement w n)))

/-- R22, R25, R27: what the environment can do, and that it touches nothing else. -/
def Obligations.EnvironmentTouchesOnlyThePort : Prop :=
  ∀ (s : State) (rest : List Turn) (bs : List Byte) (ms : Nat),
    (s.agenda = .env (.receive bs) :: rest → step s = .next { s with agenda := rest, rxq := s.rxq ++ bs }) ∧
    (s.agenda = .env .txDone :: rest → step s = .next { s with agenda := rest, txDone := true }) ∧
    (s.agenda = .env (.pass ms) :: rest → step s = .next { s with agenda := rest, now := s.now + ms })

/-- R36, R210: reset at any moment leaves the values that R36 gives and the configuration it had, with no operand written; construction
takes a record inside the bounds of R6 and R212 and refuses another (U14). -/
def Obligations.ResetAbandonsTheTransaction : Prop :=
  ∀ (s : State) (rest : List Turn) (c : Cfg),
    (s.agenda = .boot .reset :: rest → ∃ t, step s = .next t ∧ t.seq = .idle ∧ t.rErr = .none ∧ t.rExc = 0#8 ∧
      t.rAck = false ∧ t.rCount = 0#16 ∧ t.txlen = 0 ∧ t.rxlen = 0 ∧ t.de = false ∧ t.txDone = true ∧ t.cfg = s.cfg ∧
      t.written = Written.none) ∧
    (s.agenda = .boot (.construct c) :: rest →
      0 < c.baud ∧ 1 ≤ c.tPollMs ∧ 1 ≤ c.tRespMs ∧ 260 ≤ c.rxCap ∧ 1 ≤ c.wmcQtyMax ∧ c.wmcQtyMax ≤ 1968 →
      ∃ t, step s = .next t ∧ t.seq = .idle ∧ t.rErr = .none ∧
      t.rExc = 0#8 ∧ t.rAck = false ∧ t.rCount = 0#16 ∧ t.txlen = 0 ∧ t.rxlen = 0 ∧ t.de = false ∧ t.txDone = true ∧
      t.cfg = c ∧ t.written = Written.none) ∧
    (s.agenda = .boot (.construct c) :: rest →
      ¬(0 < c.baud ∧ 1 ≤ c.tPollMs ∧ 1 ≤ c.tRespMs ∧ 260 ≤ c.rxCap ∧ 1 ≤ c.wmcQtyMax ∧ c.wmcQtyMax ≤ 1968) →
      step s = .refused .badConfig)
end

