-- ==== Sys2Proof/Laws/Bytes.lean ====
section
/-! SUPPORT. The laws of byte order, of the packing helpers and of the CRC update that later proofs cite. -/

namespace Sys2Proof

@[simp] theorem be16_length (v : Word) : (be16 v).length = 2 := rfl

@[simp] theorem le16_length (v : Word) : (le16 v).length = 2 := rfl

@[simp] theorem ofHiLo_hi8_lo8 (v : Word) : ofHiLo (hi8 v) (lo8 v) = v := by
  unfold ofHiLo hi8 lo8
  ext i hi
  simp only [BitVec.getElem_append, BitVec.getElem_extractLsb']
  split
  · simp [BitVec.getLsbD_eq_getElem hi]
  · rw [show 8 + (i - 8) = i by omega, BitVec.getLsbD_eq_getElem hi]

theorem ofHiLo_toNat (h l : Byte) : (ofHiLo h l).toNat = l.toNat + 256 * h.toNat := by
  unfold ofHiLo
  rw [BitVec.toNat_append, ← Nat.shiftLeft_add_eq_or_of_lt l.isLt, Nat.shiftLeft_eq]
  omega

theorem hi8_toNat (v : Word) : (hi8 v).toNat = v.toNat / 256 := by
  have := v.isLt
  simp only [hi8, BitVec.extractLsb'_toNat, Nat.shiftRight_eq_div_pow]
  omega

theorem lo8_toNat (v : Word) : (lo8 v).toNat = v.toNat % 256 := by
  simp [lo8, BitVec.extractLsb'_toNat]

@[simp] theorem hi8_ofHiLo (h l : Byte) : hi8 (ofHiLo h l) = h := by
  apply BitVec.eq_of_toNat_eq
  have := l.isLt
  rw [hi8_toNat, ofHiLo_toNat]
  omega

@[simp] theorem lo8_ofHiLo (h l : Byte) : lo8 (ofHiLo h l) = l := by
  apply BitVec.eq_of_toNat_eq
  have := l.isLt
  rw [lo8_toNat, ofHiLo_toNat]
  omega

theorem ofHiLo_getLsbD (h l : Byte) (i : Nat) :
    (ofHiLo h l).getLsbD i = if i < 8 then l.getLsbD i else h.getLsbD (i - 8) := by
  unfold ofHiLo
  exact BitVec.getLsbD_append.trans (by split <;> rfl)

theorem hi8_getLsbD (v : Word) (i : Nat) : (hi8 v).getLsbD i = (decide (i < 8) && v.getLsbD (8 + i)) := by
  simp [hi8, BitVec.getLsbD_extractLsb']

theorem lo8_getLsbD (v : Word) (i : Nat) : (lo8 v).getLsbD i = (decide (i < 8) && v.getLsbD i) := by
  simp [lo8, BitVec.getLsbD_extractLsb']

/-- A big-endian field reads back (R42). -/
@[simp] theorem u16be_be16 (v : Word) (rest : List Byte) : u16be (be16 v ++ rest) 0 = v := by
  simp [u16be, be16, byteAt]

/-- Two bytes are little-endian of `v` exactly when they are its low and its high byte. -/
theorem le16_eq_pair (v : Word) (l h : Byte) : le16 v = [l, h] ↔ v = ofHiLo h l := by
  constructor
  · intro e
    simp only [le16, List.cons.injEq, and_true] at e
    rw [← e.1, ← e.2, ofHiLo_hi8_lo8]
  · rintro rfl
    simp [le16]

@[simp] theorem packBits_length (b : List Bool) : (packBits b).length = ceilDiv b.length 8 := by simp [packBits]

@[simp] theorem unpackBits_length (p : List Byte) (q : Nat) : (unpackBits p q).length = q := by simp [unpackBits]

@[simp] theorem packRegs_length (v : List Word) : (packRegs v).length = 2 * v.length := by
  induction v with
  | nil => rfl
  | cons a v ih => simp only [packRegs, List.flatMap_cons, List.length_append, be16_length] at ih ⊢; rw [ih]; simp; omega

@[simp] theorem unpackRegs_length (p : List Byte) (q : Nat) : (unpackRegs p q).length = q := by simp [unpackRegs]

/-- `crc16` of a sequence with one more byte: one more update (R95). -/
theorem crc16_append_byte (m : List Byte) (b : Byte) : crc16 (m ++ [b]) = crcUpdate (crc16 m) b := by
  simp [crc16, List.foldl_append]

/-- Feeding the low byte of the accumulator leaves its high byte: index 0 of the table is 0 (R91, R92). -/
theorem crcUpdate_lo8 (c : Word) : crcUpdate c (lo8 c) = c >>> 8 := by
  unfold crcUpdate
  rw [BitVec.xor_self]
  show (c >>> 8) ^^^ 0#16 = c >>> 8
  exact BitVec.xor_zero

@[simp] theorem frame_length (m : List Byte) : (frame m).length = m.length + 2 := by simp [frame]

end Sys2Proof
end

