-- ==== Sys2Proof/Laws/Memory.lean ====
section
/-! SUPPORT. The laws of buffers: every write keeps the canonical form and the array's bound, a read after a write, and
equal contents are equal data. -/

namespace Sys2Proof.Machine

set_option linter.unusedSectionVars false

variable {α : Type} [Inhabited α] [DecidableEq α]

@[simp] theorem Memory.wf_nil : Memory.wf ([] : List (Nat × α)) = true := rfl

@[simp] theorem Memory.within_nil (cap : Nat) : Memory.within cap ([] : List (Nat × α)) = true := rfl

@[simp] theorem Memory.read_nil (i : Nat) : Memory.read ([] : List (Nat × α)) i = Memory.unlisted α := rfl

theorem Memory.wfFrom_cons (lo a : Nat) (v : α) (m : List (Nat × α)) :
    Memory.wfFrom lo ((a, v) :: m) = true ↔ lo ≤ a ∧ v ≠ Memory.unlisted α ∧ Memory.wfFrom (a + 1) m = true := by
  simp [Memory.wfFrom, and_assoc]

theorem Memory.wfFrom_le {lo lo' : Nat} {m : List (Nat × α)} (h : Memory.wfFrom lo m = true) (hl : lo' ≤ lo) :
    Memory.wfFrom lo' m = true := by
  cases m with
  | nil => rfl
  | cons c m =>
    rw [Memory.wfFrom_cons] at h ⊢
    exact ⟨hl.trans h.1, h.2⟩

/-- Below its lowest offset a buffer reads as unlisted. -/
theorem Memory.read_below {lo i : Nat} {m : List (Nat × α)} (h : Memory.wfFrom lo m = true) (hi : i < lo) :
    Memory.read m i = Memory.unlisted α := by
  induction m generalizing lo with
  | nil => rfl
  | cons c m ih =>
    obtain ⟨ha, -, hm⟩ := (Memory.wfFrom_cons _ _ _ _).1 h
    rw [Memory.read, if_neg (by omega)]
    exact ih hm (by omega)

theorem Memory.write_wfFrom {lo i : Nat} (v : α) {m : List (Nat × α)} (h : Memory.wfFrom lo m = true) (hi : lo ≤ i) :
    Memory.wfFrom lo (Memory.write i v m) = true := by
  induction m generalizing lo with
  | nil =>
    unfold Memory.write
    split
    · rfl
    · exact (Memory.wfFrom_cons _ _ _ _).2 ⟨hi, ‹_›, rfl⟩
  | cons c m ih =>
    obtain ⟨ha, hv, hm⟩ := (Memory.wfFrom_cons _ _ _ _).1 h
    unfold Memory.write
    split_ifs with h1 h2 h3 h4
    · exact h
    · exact (Memory.wfFrom_cons _ _ _ _).2 ⟨hi, h2, (Memory.wfFrom_cons _ _ _ _).2 ⟨h1, hv, hm⟩⟩
    · exact Memory.wfFrom_le hm (by omega)
    · exact (Memory.wfFrom_cons _ _ _ _).2 ⟨hi, h4, by rw [h3]; exact hm⟩
    · exact (Memory.wfFrom_cons _ _ _ _).2 ⟨ha, hv, ih hm (by omega)⟩

/-- A write keeps the canonical form. -/
theorem Memory.write_wf (i : Nat) (v : α) {m : List (Nat × α)} (h : Memory.wf m = true) :
    Memory.wf (Memory.write i v m) = true := Memory.write_wfFrom v h (Nat.zero_le i)

/-- A write of a sequence keeps the canonical form. -/
theorem Memory.writeList_wf (o : Nat) (vs : List α) {m : List (Nat × α)} (h : Memory.wf m = true) :
    Memory.wf (Memory.writeList o vs m) = true := by
  induction vs generalizing o m with
  | nil => exact h
  | cons v vs ih => exact ih (o + 1) (Memory.write_wf o v h)

/-- A write inside the array keeps every listed offset inside it. -/
theorem Memory.write_within {cap i : Nat} (v : α) {m : List (Nat × α)} (h : Memory.within cap m = true) (hi : i < cap) :
    Memory.within cap (Memory.write i v m) = true := by
  induction m with
  | nil =>
    unfold Memory.write
    split <;> simp [Memory.within, hi]
  | cons c m ih =>
    have hc : c.1 < cap ∧ Memory.within cap m = true := by simpa [Memory.within] using h
    have hm : ∀ a b, (a, b) ∈ m → a < cap := by simpa [Memory.within] using hc.2
    unfold Memory.write
    split_ifs
    · exact h
    · simpa [Memory.within, hi, hc.1] using hm
    · exact hc.2
    · simpa [Memory.within, hi] using hm
    · have := ih hc.2
      simp only [Memory.within, List.all_cons, Bool.and_eq_true, decide_eq_true_eq] at this ⊢
      exact ⟨hc.1, this⟩

/-- A write of a sequence inside the array keeps every listed offset inside it. -/
theorem Memory.writeList_within {cap o : Nat} {vs : List α} {m : List (Nat × α)} (h : Memory.within cap m = true)
    (hi : o + vs.length ≤ cap) : Memory.within cap (Memory.writeList o vs m) = true := by
  induction vs generalizing o m with
  | nil => exact h
  | cons v vs ih =>
    rw [List.length_cons] at hi
    exact ih (Memory.write_within v h (by omega)) (by omega)

theorem Memory.read_cons (a : Nat) (w : α) (m : List (Nat × α)) (j : Nat) :
    Memory.read ((a, w) :: m) j = if a = j then w else Memory.read m j := rfl

theorem Memory.read_write_from {lo i : Nat} (v : α) {m : List (Nat × α)} (h : Memory.wfFrom lo m = true) (j : Nat) :
    Memory.read (Memory.write i v m) j = if j = i then v else Memory.read m j := by
  induction m generalizing lo with
  | nil =>
    unfold Memory.write
    by_cases hv : v = Memory.unlisted α
    · rw [if_pos hv, hv, Memory.read_nil, ite_self]
    · rw [if_neg hv, Memory.read_cons, Memory.read_nil]
      exact if_congr eq_comm rfl rfl
  | cons c m ih =>
    obtain ⟨a, w⟩ := c
    obtain ⟨ha, hw, hm⟩ := (Memory.wfFrom_cons _ _ _ _).1 h
    unfold Memory.write
    by_cases h1 : i < a
    · rw [if_pos h1]
      by_cases hv : v = Memory.unlisted α
      · rw [if_pos hv]
        by_cases hj : j = i
        · rw [if_pos hj, hv]
          exact Memory.read_below ((Memory.wfFrom_cons _ _ _ _).2 ⟨le_refl a, hw, hm⟩) (by omega)
        · rw [if_neg hj]
      · rw [if_neg hv, Memory.read_cons]
        exact if_congr eq_comm rfl rfl
    · rw [if_neg h1]
      by_cases h2 : i = a
      · rw [if_pos h2, Memory.read_cons]
        by_cases hv : v = Memory.unlisted α
        · rw [if_pos hv]
          by_cases hj : j = i
          · rw [if_pos hj, hv]
            exact Memory.read_below hm (by omega)
          · rw [if_neg hj, if_neg (by omega)]
        · rw [if_neg hv, Memory.read_cons]
          by_cases hj : j = i
          · rw [if_pos hj, if_pos hj.symm]
          · rw [if_neg hj, if_neg (Ne.symm hj), if_neg (by omega)]
      · rw [if_neg h2, Memory.read_cons, Memory.read_cons, ih hm]
        by_cases hj : j = i
        · rw [if_pos hj, if_neg (by omega), if_pos hj]
        · simp only [if_neg hj]

/-- Reading one element after writing one. -/
theorem Memory.read_write (i : Nat) (v : α) {m : List (Nat × α)} (h : Memory.wf m = true) (j : Nat) :
    Memory.read (Memory.write i v m) j = if j = i then v else Memory.read m j := Memory.read_write_from v h j

/-- Reading one element after writing a sequence. -/
theorem Memory.read_writeList (o : Nat) (vs : List α) {m : List (Nat × α)} (h : Memory.wf m = true) (j : Nat) :
    Memory.read (Memory.writeList o vs m) j =
      if o ≤ j ∧ j < o + vs.length then vs.getD (j - o) (Memory.unlisted α) else Memory.read m j := by
  induction vs generalizing o m with
  | nil => rw [if_neg (by simp)]; rfl
  | cons v vs ih =>
    rw [Memory.writeList, ih _ (Memory.write_wf o v h), Memory.read_write o v h, List.length_cons]
    by_cases h1 : j = o
    · rw [if_neg (by omega), if_pos h1, if_pos (by omega), h1, Nat.sub_self, List.getD_cons_zero]
    · by_cases h2 : o + 1 ≤ j ∧ j < o + 1 + vs.length
      · rw [if_pos h2, if_pos (by omega), show j - o = (j - (o + 1)) + 1 by omega, List.getD_cons_succ]
      · rw [if_neg h2, if_neg h1, if_neg (by omega)]

/-- An element outside the written range reads as before. -/
theorem Memory.read_writeList_outside (o : Nat) (vs : List α) {m : List (Nat × α)} (h : Memory.wf m = true) {j : Nat}
    (hj : j < o ∨ o + vs.length ≤ j) : Memory.read (Memory.writeList o vs m) j = Memory.read m j := by
  rw [Memory.read_writeList o vs h, if_neg (by omega)]

@[simp] theorem Memory.readList_length (o n : Nat) (m : List (Nat × α)) : (Memory.readList o n m).length = n := by
  simp [Memory.readList]

theorem Memory.readList_getElem (o n : Nat) (m : List (Nat × α)) (i : Nat) (hi : i < (Memory.readList o n m).length) :
    (Memory.readList o n m)[i] = Memory.read m (o + i) := by
  simp [Memory.readList]

/-- Reading a range back after writing it. -/
theorem Memory.readList_writeList (o : Nat) (vs : List α) {m : List (Nat × α)} (h : Memory.wf m = true) :
    Memory.readList o vs.length (Memory.writeList o vs m) = vs := by
  apply List.ext_getElem (by simp)
  intro i h1 h2
  rw [Memory.readList_getElem, Memory.read_writeList o vs h, if_pos (by omega), Nat.add_sub_cancel_left,
    List.getD_eq_getElem _ _ h2]

/-- Reading on from offset 0 over a prefix that a write left alone and the written range after it. -/
theorem Memory.readList_append (n : Nat) (vs : List α) {m : List (Nat × α)} (h : Memory.wf m = true) :
    Memory.readList 0 (n + vs.length) (Memory.writeList n vs m) = Memory.readList 0 n m ++ vs := by
  apply List.ext_getElem (by simp)
  intro i h1 h2
  rw [Memory.readList_getElem, Memory.read_writeList n vs h, List.getElem_append]
  simp only [Memory.readList_length] at h1 ⊢
  by_cases hi : i < n
  · rw [if_neg (by omega), dif_pos hi, Memory.readList_getElem]
  · rw [if_pos (by omega), dif_neg hi, show 0 + i - n = i - n by omega, List.getD_eq_getElem]

/-- Two buffers in canonical form with the same contents are the same data. -/
theorem Memory.ext_from {lo : Nat} {m m' : List (Nat × α)} (h : Memory.wfFrom lo m = true)
    (h' : Memory.wfFrom lo m' = true) (hr : ∀ i, Memory.read m i = Memory.read m' i) : m = m' := by
  induction m generalizing lo m' with
  | nil =>
    cases m' with
    | nil => rfl
    | cons c m' =>
      obtain ⟨a, w⟩ := c
      obtain ⟨-, hw, -⟩ := (Memory.wfFrom_cons _ _ _ _).1 h'
      have := hr a
      rw [Memory.read_nil, Memory.read_cons, if_pos rfl] at this
      exact absurd this.symm hw
  | cons c m ih =>
    obtain ⟨a, w⟩ := c
    obtain ⟨ha, hw, hm⟩ := (Memory.wfFrom_cons _ _ _ _).1 h
    cases m' with
    | nil =>
      have := hr a
      rw [Memory.read_nil, Memory.read_cons, if_pos rfl] at this
      exact absurd this hw
    | cons c' m' =>
      obtain ⟨a', w'⟩ := c'
      obtain ⟨ha', hw', hm'⟩ := (Memory.wfFrom_cons _ _ _ _).1 h'
      have e : a = a' := by
        rcases Nat.lt_trichotomy a a' with hlt | heq | hlt
        · have := hr a
          rw [Memory.read_cons, if_pos rfl, Memory.read_cons, if_neg (by omega), Memory.read_below hm' (by omega)] at this
          exact absurd this hw
        · exact heq
        · have := hr a'
          rw [Memory.read_cons, if_neg (by omega), Memory.read_cons, if_pos rfl, Memory.read_below hm (by omega)] at this
          exact absurd this.symm hw'
      subst e
      have hw2 : w = w' := by simpa [Memory.read_cons] using hr a
      subst hw2
      rw [ih hm hm']
      intro i
      by_cases hi : i = a
      · rw [hi, Memory.read_below hm (by omega), Memory.read_below hm' (by omega)]
      · have := hr i
        rwa [Memory.read_cons, if_neg (Ne.symm hi), Memory.read_cons, if_neg (Ne.symm hi)] at this

/-- Equal contents are equal data. -/
theorem Memory.ext {m m' : List (Nat × α)} (h : Memory.wf m = true) (h' : Memory.wf m' = true)
    (hr : ∀ i, Memory.read m i = Memory.read m' i) : m = m' := Memory.ext_from h h' hr

end Sys2Proof.Machine
end

