-- ==== Sys2Proof/Laws/Calls.lean ====
section
/-! SUPPORT. What the operand registers and the write-data windows hold, said once: a written place holds what was written, and the
contents depend on the host's fields and the number of resets alone. -/

namespace Sys2Proof.Machine

open Sys2Proof

theorem State.operands_fc {s : State} (h : s.written.fc = true) : s.operands.fc = s.x.fc := if_pos h
theorem State.operands_slave {s : State} (h : s.written.slave = true) : s.operands.slave = s.x.slave := if_pos h
theorem State.operands_addr {s : State} (h : s.written.addr = true) : s.operands.addr = s.x.addr := if_pos h
theorem State.operands_qty {s : State} (h : s.written.qty = true) : s.operands.qty = s.x.qty := if_pos h
theorem State.operands_value {s : State} (h : s.written.value = true) : s.operands.value = s.x.value := if_pos h
theorem State.operands_signed {s : State} (h : s.written.signed = true) : s.operands.signed = s.x.signed := if_pos h

/-- Nothing but the host's own fields and a reset changes the operand registers. -/
theorem State.operands_congr {s t : State} (hx : t.x = s.x) (hw : t.written = s.written) (hr : t.resets = s.resets) :
    t.operands = s.operands := by
  simp only [State.operands, State.unwritten, hx, hw, hr]

/-- Nothing but the host's own fields and a reset changes WCOIL. -/
theorem State.coils_congr {s t : State} (hc : t.wcoil = s.wcoil) (hw : t.written = s.written) (hr : t.resets = s.resets)
    (n : Nat) : t.coils n = s.coils n := by
  simp only [State.coils, State.coilAt, State.unwritten, hc, hw, hr]

/-- Nothing but the host's own fields and a reset changes WREG. -/
theorem State.regs_congr {s t : State} (hc : t.wreg = s.wreg) (hw : t.written = s.written) (hr : t.resets = s.resets)
    (n : Nat) : t.regs n = s.regs n := by
  simp only [State.regs, State.regAt, State.unwritten, hc, hw, hr]

@[simp] theorem State.coils_length (s : State) (n : Nat) : (s.coils n).length = n := by simp [State.coils]

@[simp] theorem State.regs_length (s : State) (n : Nat) : (s.regs n).length = n := by simp [State.regs]

/-- Where the first `n` elements of WCOIL are written, they are what the host wrote. -/
theorem State.coils_written {s : State} {n : Nat} (h : ∀ k, k < n → Memory.read s.written.wcoil k = true) :
    s.coils n = Memory.readList 0 n s.wcoil :=
  List.map_congr_left fun k hk => by rw [State.coilAt, if_pos (h k (List.mem_range.1 hk)), Nat.zero_add]

/-- Where the first `n` elements of WREG are written, they are what the host wrote. -/
theorem State.regs_written {s : State} {n : Nat} (h : ∀ k, k < n → Memory.read s.written.wreg k = true) :
    s.regs n = Memory.readList 0 n s.wreg :=
  List.map_congr_left fun k hk => by rw [State.regAt, if_pos (h k (List.mem_range.1 hk)), Nat.zero_add]

/-- The elements of a list written from element 0 are all marked. -/
theorem read_marks {β : Type} (vs : List β) {m : List (Nat × Bool)} (h : Memory.wf m = true) {k : Nat} (hk : k < vs.length) :
    Memory.read (Memory.writeList 0 (vs.map fun _ => true) m) k = true := by
  rw [Memory.read_writeList 0 _ h, if_pos (by simpa using hk), List.getD_eq_getElem _ _ (by simpa using hk), List.getElem_map]

end Sys2Proof.Machine
end

