-- ==== Sys2Proof/Laws/State.lean ====
section
/-! SUPPORT. One lemma per field per named update of State, so that no proof unfolds a record update. -/

namespace Sys2Proof.Machine

open Sys2Proof

theorem State.crcUpdate_foldl (m : List Byte) (s : State) :
    m.foldl State.crcUpdate s = { s with crc := m.foldl Sys2Proof.crcUpdate s.crc } := by
  induction m generalizing s with
  | nil => rfl
  | cons b m ih => simp only [List.foldl_cons, ih]; rfl

/-- A checksum computation changes the accumulator alone and leaves `crc16` in it (R95, R96). -/
theorem State.crcRun_eq (m : List Byte) (s : State) : s.crcRun m = { s with crc := crc16 m } := by
  unfold State.crcRun
  rw [State.crcUpdate_foldl]
  rfl

/-! ### goto -/

@[simp] theorem State.goto_cfg (s : State) (k : Seq) : (s.goto k).cfg = s.cfg := rfl
@[simp] theorem State.goto_x (s : State) (k : Seq) : (s.goto k).x = s.x := rfl
@[simp] theorem State.goto_wcoil (s : State) (k : Seq) : (s.goto k).wcoil = s.wcoil := rfl
@[simp] theorem State.goto_wreg (s : State) (k : Seq) : (s.goto k).wreg = s.wreg := rfl
@[simp] theorem State.goto_written (s : State) (k : Seq) : (s.goto k).written = s.written := rfl
@[simp] theorem State.goto_rbits (s : State) (k : Seq) : (s.goto k).rbits = s.rbits := rfl
@[simp] theorem State.goto_rregs (s : State) (k : Seq) : (s.goto k).rregs = s.rregs := rfl
@[simp] theorem State.goto_seq (s : State) (k : Seq) : (s.goto k).seq = k := rfl
@[simp] theorem State.goto_txn (s : State) (k : Seq) : (s.goto k).txn = s.txn := rfl
@[simp] theorem State.goto_rErr (s : State) (k : Seq) : (s.goto k).rErr = s.rErr := rfl
@[simp] theorem State.goto_rExc (s : State) (k : Seq) : (s.goto k).rExc = s.rExc := rfl
@[simp] theorem State.goto_rAck (s : State) (k : Seq) : (s.goto k).rAck = s.rAck := rfl
@[simp] theorem State.goto_rCount (s : State) (k : Seq) : (s.goto k).rCount = s.rCount := rfl
@[simp] theorem State.goto_txbuf (s : State) (k : Seq) : (s.goto k).txbuf = s.txbuf := rfl
@[simp] theorem State.goto_txlen (s : State) (k : Seq) : (s.goto k).txlen = s.txlen := rfl
@[simp] theorem State.goto_rxbuf (s : State) (k : Seq) : (s.goto k).rxbuf = s.rxbuf := rfl
@[simp] theorem State.goto_rxlen (s : State) (k : Seq) : (s.goto k).rxlen = s.rxlen := rfl
@[simp] theorem State.goto_tStart (s : State) (k : Seq) : (s.goto k).tStart = s.tStart := rfl
@[simp] theorem State.goto_tLast (s : State) (k : Seq) : (s.goto k).tLast = s.tLast := rfl
@[simp] theorem State.goto_crc (s : State) (k : Seq) : (s.goto k).crc = s.crc := rfl
@[simp] theorem State.goto_de (s : State) (k : Seq) : (s.goto k).de = s.de := rfl
@[simp] theorem State.goto_rxq (s : State) (k : Seq) : (s.goto k).rxq = s.rxq := rfl
@[simp] theorem State.goto_txDone (s : State) (k : Seq) : (s.goto k).txDone = s.txDone := rfl
@[simp] theorem State.goto_now (s : State) (k : Seq) : (s.goto k).now = s.now := rfl
@[simp] theorem State.goto_events (s : State) (k : Seq) : (s.goto k).events = s.events := rfl
@[simp] theorem State.goto_agenda (s : State) (k : Seq) : (s.goto k).agenda = s.agenda := rfl
@[simp] theorem State.goto_hostData (s : State) (k : Seq) : (s.goto k).hostData = s.hostData := rfl
@[simp] theorem State.goto_freeCount (s : State) (k : Seq) : (s.goto k).freeCount = s.freeCount := rfl
@[simp] theorem State.goto_resets (s : State) (k : Seq) : (s.goto k).resets = s.resets := rfl

/-! ### serFlush -/

@[simp] theorem State.serFlush_cfg (s : State) : (s.serFlush).cfg = s.cfg := rfl
@[simp] theorem State.serFlush_x (s : State) : (s.serFlush).x = s.x := rfl
@[simp] theorem State.serFlush_wcoil (s : State) : (s.serFlush).wcoil = s.wcoil := rfl
@[simp] theorem State.serFlush_wreg (s : State) : (s.serFlush).wreg = s.wreg := rfl
@[simp] theorem State.serFlush_written (s : State) : (s.serFlush).written = s.written := rfl
@[simp] theorem State.serFlush_rbits (s : State) : (s.serFlush).rbits = s.rbits := rfl
@[simp] theorem State.serFlush_rregs (s : State) : (s.serFlush).rregs = s.rregs := rfl
@[simp] theorem State.serFlush_seq (s : State) : (s.serFlush).seq = s.seq := rfl
@[simp] theorem State.serFlush_txn (s : State) : (s.serFlush).txn = s.txn := rfl
@[simp] theorem State.serFlush_rErr (s : State) : (s.serFlush).rErr = s.rErr := rfl
@[simp] theorem State.serFlush_rExc (s : State) : (s.serFlush).rExc = s.rExc := rfl
@[simp] theorem State.serFlush_rAck (s : State) : (s.serFlush).rAck = s.rAck := rfl
@[simp] theorem State.serFlush_rCount (s : State) : (s.serFlush).rCount = s.rCount := rfl
@[simp] theorem State.serFlush_txbuf (s : State) : (s.serFlush).txbuf = s.txbuf := rfl
@[simp] theorem State.serFlush_txlen (s : State) : (s.serFlush).txlen = s.txlen := rfl
@[simp] theorem State.serFlush_rxbuf (s : State) : (s.serFlush).rxbuf = s.rxbuf := rfl
@[simp] theorem State.serFlush_rxlen (s : State) : (s.serFlush).rxlen = s.rxlen := rfl
@[simp] theorem State.serFlush_tStart (s : State) : (s.serFlush).tStart = s.tStart := rfl
@[simp] theorem State.serFlush_tLast (s : State) : (s.serFlush).tLast = s.tLast := rfl
@[simp] theorem State.serFlush_crc (s : State) : (s.serFlush).crc = s.crc := rfl
@[simp] theorem State.serFlush_de (s : State) : (s.serFlush).de = s.de := rfl
@[simp] theorem State.serFlush_rxq (s : State) : (s.serFlush).rxq = [] := rfl
@[simp] theorem State.serFlush_txDone (s : State) : (s.serFlush).txDone = s.txDone := rfl
@[simp] theorem State.serFlush_now (s : State) : (s.serFlush).now = s.now := rfl
@[simp] theorem State.serFlush_events (s : State) : (s.serFlush).events = s.events ++ [.flushRx] := rfl
@[simp] theorem State.serFlush_agenda (s : State) : (s.serFlush).agenda = s.agenda := rfl
@[simp] theorem State.serFlush_hostData (s : State) : (s.serFlush).hostData = s.hostData := rfl
@[simp] theorem State.serFlush_freeCount (s : State) : (s.serFlush).freeCount = s.freeCount := rfl
@[simp] theorem State.serFlush_resets (s : State) : (s.serFlush).resets = s.resets := rfl

/-! ### serDrop -/

@[simp] theorem State.serDrop_cfg (s : State) (k : Nat) : (s.serDrop k).cfg = s.cfg := rfl
@[simp] theorem State.serDrop_x (s : State) (k : Nat) : (s.serDrop k).x = s.x := rfl
@[simp] theorem State.serDrop_wcoil (s : State) (k : Nat) : (s.serDrop k).wcoil = s.wcoil := rfl
@[simp] theorem State.serDrop_wreg (s : State) (k : Nat) : (s.serDrop k).wreg = s.wreg := rfl
@[simp] theorem State.serDrop_written (s : State) (k : Nat) : (s.serDrop k).written = s.written := rfl
@[simp] theorem State.serDrop_rbits (s : State) (k : Nat) : (s.serDrop k).rbits = s.rbits := rfl
@[simp] theorem State.serDrop_rregs (s : State) (k : Nat) : (s.serDrop k).rregs = s.rregs := rfl
@[simp] theorem State.serDrop_seq (s : State) (k : Nat) : (s.serDrop k).seq = s.seq := rfl
@[simp] theorem State.serDrop_txn (s : State) (k : Nat) : (s.serDrop k).txn = s.txn := rfl
@[simp] theorem State.serDrop_rErr (s : State) (k : Nat) : (s.serDrop k).rErr = s.rErr := rfl
@[simp] theorem State.serDrop_rExc (s : State) (k : Nat) : (s.serDrop k).rExc = s.rExc := rfl
@[simp] theorem State.serDrop_rAck (s : State) (k : Nat) : (s.serDrop k).rAck = s.rAck := rfl
@[simp] theorem State.serDrop_rCount (s : State) (k : Nat) : (s.serDrop k).rCount = s.rCount := rfl
@[simp] theorem State.serDrop_txbuf (s : State) (k : Nat) : (s.serDrop k).txbuf = s.txbuf := rfl
@[simp] theorem State.serDrop_txlen (s : State) (k : Nat) : (s.serDrop k).txlen = s.txlen := rfl
@[simp] theorem State.serDrop_rxbuf (s : State) (k : Nat) : (s.serDrop k).rxbuf = s.rxbuf := rfl
@[simp] theorem State.serDrop_rxlen (s : State) (k : Nat) : (s.serDrop k).rxlen = s.rxlen := rfl
@[simp] theorem State.serDrop_tStart (s : State) (k : Nat) : (s.serDrop k).tStart = s.tStart := rfl
@[simp] theorem State.serDrop_tLast (s : State) (k : Nat) : (s.serDrop k).tLast = s.tLast := rfl
@[simp] theorem State.serDrop_crc (s : State) (k : Nat) : (s.serDrop k).crc = s.crc := rfl
@[simp] theorem State.serDrop_de (s : State) (k : Nat) : (s.serDrop k).de = s.de := rfl
@[simp] theorem State.serDrop_rxq (s : State) (k : Nat) : (s.serDrop k).rxq = s.rxq.drop k := rfl
@[simp] theorem State.serDrop_txDone (s : State) (k : Nat) : (s.serDrop k).txDone = s.txDone := rfl
@[simp] theorem State.serDrop_now (s : State) (k : Nat) : (s.serDrop k).now = s.now := rfl
@[simp] theorem State.serDrop_events (s : State) (k : Nat) : (s.serDrop k).events = s.events ++ [.read (s.rxq.take k)] := rfl
@[simp] theorem State.serDrop_agenda (s : State) (k : Nat) : (s.serDrop k).agenda = s.agenda := rfl
@[simp] theorem State.serDrop_hostData (s : State) (k : Nat) : (s.serDrop k).hostData = s.hostData := rfl
@[simp] theorem State.serDrop_freeCount (s : State) (k : Nat) : (s.serDrop k).freeCount = s.freeCount := rfl
@[simp] theorem State.serDrop_resets (s : State) (k : Nat) : (s.serDrop k).resets = s.resets := rfl

/-! ### serWrite -/

@[simp] theorem State.serWrite_cfg (s : State) (bs : List Byte) : (s.serWrite bs).cfg = s.cfg := rfl
@[simp] theorem State.serWrite_x (s : State) (bs : List Byte) : (s.serWrite bs).x = s.x := rfl
@[simp] theorem State.serWrite_wcoil (s : State) (bs : List Byte) : (s.serWrite bs).wcoil = s.wcoil := rfl
@[simp] theorem State.serWrite_wreg (s : State) (bs : List Byte) : (s.serWrite bs).wreg = s.wreg := rfl
@[simp] theorem State.serWrite_written (s : State) (bs : List Byte) : (s.serWrite bs).written = s.written := rfl
@[simp] theorem State.serWrite_rbits (s : State) (bs : List Byte) : (s.serWrite bs).rbits = s.rbits := rfl
@[simp] theorem State.serWrite_rregs (s : State) (bs : List Byte) : (s.serWrite bs).rregs = s.rregs := rfl
@[simp] theorem State.serWrite_seq (s : State) (bs : List Byte) : (s.serWrite bs).seq = s.seq := rfl
@[simp] theorem State.serWrite_txn (s : State) (bs : List Byte) : (s.serWrite bs).txn = s.txn := rfl
@[simp] theorem State.serWrite_rErr (s : State) (bs : List Byte) : (s.serWrite bs).rErr = s.rErr := rfl
@[simp] theorem State.serWrite_rExc (s : State) (bs : List Byte) : (s.serWrite bs).rExc = s.rExc := rfl
@[simp] theorem State.serWrite_rAck (s : State) (bs : List Byte) : (s.serWrite bs).rAck = s.rAck := rfl
@[simp] theorem State.serWrite_rCount (s : State) (bs : List Byte) : (s.serWrite bs).rCount = s.rCount := rfl
@[simp] theorem State.serWrite_txbuf (s : State) (bs : List Byte) : (s.serWrite bs).txbuf = s.txbuf := rfl
@[simp] theorem State.serWrite_txlen (s : State) (bs : List Byte) : (s.serWrite bs).txlen = s.txlen := rfl
@[simp] theorem State.serWrite_rxbuf (s : State) (bs : List Byte) : (s.serWrite bs).rxbuf = s.rxbuf := rfl
@[simp] theorem State.serWrite_rxlen (s : State) (bs : List Byte) : (s.serWrite bs).rxlen = s.rxlen := rfl
@[simp] theorem State.serWrite_tStart (s : State) (bs : List Byte) : (s.serWrite bs).tStart = s.tStart := rfl
@[simp] theorem State.serWrite_tLast (s : State) (bs : List Byte) : (s.serWrite bs).tLast = s.tLast := rfl
@[simp] theorem State.serWrite_crc (s : State) (bs : List Byte) : (s.serWrite bs).crc = s.crc := rfl
@[simp] theorem State.serWrite_de (s : State) (bs : List Byte) : (s.serWrite bs).de = s.de := rfl
@[simp] theorem State.serWrite_rxq (s : State) (bs : List Byte) : (s.serWrite bs).rxq = s.rxq := rfl
@[simp] theorem State.serWrite_txDone (s : State) (bs : List Byte) : (s.serWrite bs).txDone = false := rfl
@[simp] theorem State.serWrite_now (s : State) (bs : List Byte) : (s.serWrite bs).now = s.now := rfl
@[simp] theorem State.serWrite_events (s : State) (bs : List Byte) : (s.serWrite bs).events = s.events ++ [.write bs] := rfl
@[simp] theorem State.serWrite_agenda (s : State) (bs : List Byte) : (s.serWrite bs).agenda = s.agenda := rfl
@[simp] theorem State.serWrite_hostData (s : State) (bs : List Byte) : (s.serWrite bs).hostData = s.hostData := rfl
@[simp] theorem State.serWrite_freeCount (s : State) (bs : List Byte) : (s.serWrite bs).freeCount = s.freeCount := rfl
@[simp] theorem State.serWrite_resets (s : State) (bs : List Byte) : (s.serWrite bs).resets = s.resets := rfl

/-! ### txStore -/

@[simp] theorem State.txStore_cfg (s : State) (bs : List Byte) : (s.txStore bs).cfg = s.cfg := rfl
@[simp] theorem State.txStore_x (s : State) (bs : List Byte) : (s.txStore bs).x = s.x := rfl
@[simp] theorem State.txStore_wcoil (s : State) (bs : List Byte) : (s.txStore bs).wcoil = s.wcoil := rfl
@[simp] theorem State.txStore_wreg (s : State) (bs : List Byte) : (s.txStore bs).wreg = s.wreg := rfl
@[simp] theorem State.txStore_written (s : State) (bs : List Byte) : (s.txStore bs).written = s.written := rfl
@[simp] theorem State.txStore_rbits (s : State) (bs : List Byte) : (s.txStore bs).rbits = s.rbits := rfl
@[simp] theorem State.txStore_rregs (s : State) (bs : List Byte) : (s.txStore bs).rregs = s.rregs := rfl
@[simp] theorem State.txStore_seq (s : State) (bs : List Byte) : (s.txStore bs).seq = s.seq := rfl
@[simp] theorem State.txStore_txn (s : State) (bs : List Byte) : (s.txStore bs).txn = s.txn := rfl
@[simp] theorem State.txStore_rErr (s : State) (bs : List Byte) : (s.txStore bs).rErr = s.rErr := rfl
@[simp] theorem State.txStore_rExc (s : State) (bs : List Byte) : (s.txStore bs).rExc = s.rExc := rfl
@[simp] theorem State.txStore_rAck (s : State) (bs : List Byte) : (s.txStore bs).rAck = s.rAck := rfl
@[simp] theorem State.txStore_rCount (s : State) (bs : List Byte) : (s.txStore bs).rCount = s.rCount := rfl
@[simp] theorem State.txStore_txbuf (s : State) (bs : List Byte) : (s.txStore bs).txbuf = Memory.writeList 0 bs s.txbuf := rfl
@[simp] theorem State.txStore_txlen (s : State) (bs : List Byte) : (s.txStore bs).txlen = bs.length := rfl
@[simp] theorem State.txStore_rxbuf (s : State) (bs : List Byte) : (s.txStore bs).rxbuf = s.rxbuf := rfl
@[simp] theorem State.txStore_rxlen (s : State) (bs : List Byte) : (s.txStore bs).rxlen = s.rxlen := rfl
@[simp] theorem State.txStore_tStart (s : State) (bs : List Byte) : (s.txStore bs).tStart = s.tStart := rfl
@[simp] theorem State.txStore_tLast (s : State) (bs : List Byte) : (s.txStore bs).tLast = s.tLast := rfl
@[simp] theorem State.txStore_crc (s : State) (bs : List Byte) : (s.txStore bs).crc = s.crc := rfl
@[simp] theorem State.txStore_de (s : State) (bs : List Byte) : (s.txStore bs).de = s.de := rfl
@[simp] theorem State.txStore_rxq (s : State) (bs : List Byte) : (s.txStore bs).rxq = s.rxq := rfl
@[simp] theorem State.txStore_txDone (s : State) (bs : List Byte) : (s.txStore bs).txDone = s.txDone := rfl
@[simp] theorem State.txStore_now (s : State) (bs : List Byte) : (s.txStore bs).now = s.now := rfl
@[simp] theorem State.txStore_events (s : State) (bs : List Byte) : (s.txStore bs).events = s.events := rfl
@[simp] theorem State.txStore_agenda (s : State) (bs : List Byte) : (s.txStore bs).agenda = s.agenda := rfl
@[simp] theorem State.txStore_hostData (s : State) (bs : List Byte) : (s.txStore bs).hostData = s.hostData := rfl
@[simp] theorem State.txStore_freeCount (s : State) (bs : List Byte) : (s.txStore bs).freeCount = s.freeCount := rfl
@[simp] theorem State.txStore_resets (s : State) (bs : List Byte) : (s.txStore bs).resets = s.resets := rfl

/-! ### rxAppend -/

@[simp] theorem State.rxAppend_cfg (s : State) (bs : List Byte) (t : Nat) : (s.rxAppend bs t).cfg = s.cfg := rfl
@[simp] theorem State.rxAppend_x (s : State) (bs : List Byte) (t : Nat) : (s.rxAppend bs t).x = s.x := rfl
@[simp] theorem State.rxAppend_wcoil (s : State) (bs : List Byte) (t : Nat) : (s.rxAppend bs t).wcoil = s.wcoil := rfl
@[simp] theorem State.rxAppend_wreg (s : State) (bs : List Byte) (t : Nat) : (s.rxAppend bs t).wreg = s.wreg := rfl
@[simp] theorem State.rxAppend_written (s : State) (bs : List Byte) (t : Nat) : (s.rxAppend bs t).written = s.written := rfl
@[simp] theorem State.rxAppend_rbits (s : State) (bs : List Byte) (t : Nat) : (s.rxAppend bs t).rbits = s.rbits := rfl
@[simp] theorem State.rxAppend_rregs (s : State) (bs : List Byte) (t : Nat) : (s.rxAppend bs t).rregs = s.rregs := rfl
@[simp] theorem State.rxAppend_seq (s : State) (bs : List Byte) (t : Nat) : (s.rxAppend bs t).seq = s.seq := rfl
@[simp] theorem State.rxAppend_txn (s : State) (bs : List Byte) (t : Nat) : (s.rxAppend bs t).txn = s.txn := rfl
@[simp] theorem State.rxAppend_rErr (s : State) (bs : List Byte) (t : Nat) : (s.rxAppend bs t).rErr = s.rErr := rfl
@[simp] theorem State.rxAppend_rExc (s : State) (bs : List Byte) (t : Nat) : (s.rxAppend bs t).rExc = s.rExc := rfl
@[simp] theorem State.rxAppend_rAck (s : State) (bs : List Byte) (t : Nat) : (s.rxAppend bs t).rAck = s.rAck := rfl
@[simp] theorem State.rxAppend_rCount (s : State) (bs : List Byte) (t : Nat) : (s.rxAppend bs t).rCount = s.rCount := rfl
@[simp] theorem State.rxAppend_txbuf (s : State) (bs : List Byte) (t : Nat) : (s.rxAppend bs t).txbuf = s.txbuf := rfl
@[simp] theorem State.rxAppend_txlen (s : State) (bs : List Byte) (t : Nat) : (s.rxAppend bs t).txlen = s.txlen := rfl
@[simp] theorem State.rxAppend_rxbuf (s : State) (bs : List Byte) (t : Nat) : (s.rxAppend bs t).rxbuf = Memory.writeList s.rxlen bs s.rxbuf := rfl
@[simp] theorem State.rxAppend_rxlen (s : State) (bs : List Byte) (t : Nat) : (s.rxAppend bs t).rxlen = s.rxlen + bs.length := rfl
@[simp] theorem State.rxAppend_tStart (s : State) (bs : List Byte) (t : Nat) : (s.rxAppend bs t).tStart = s.tStart := rfl
@[simp] theorem State.rxAppend_tLast (s : State) (bs : List Byte) (t : Nat) : (s.rxAppend bs t).tLast = t := rfl
@[simp] theorem State.rxAppend_crc (s : State) (bs : List Byte) (t : Nat) : (s.rxAppend bs t).crc = s.crc := rfl
@[simp] theorem State.rxAppend_de (s : State) (bs : List Byte) (t : Nat) : (s.rxAppend bs t).de = s.de := rfl
@[simp] theorem State.rxAppend_rxq (s : State) (bs : List Byte) (t : Nat) : (s.rxAppend bs t).rxq = s.rxq := rfl
@[simp] theorem State.rxAppend_txDone (s : State) (bs : List Byte) (t : Nat) : (s.rxAppend bs t).txDone = s.txDone := rfl
@[simp] theorem State.rxAppend_now (s : State) (bs : List Byte) (t : Nat) : (s.rxAppend bs t).now = s.now := rfl
@[simp] theorem State.rxAppend_events (s : State) (bs : List Byte) (t : Nat) : (s.rxAppend bs t).events = s.events := rfl
@[simp] theorem State.rxAppend_agenda (s : State) (bs : List Byte) (t : Nat) : (s.rxAppend bs t).agenda = s.agenda := rfl
@[simp] theorem State.rxAppend_hostData (s : State) (bs : List Byte) (t : Nat) : (s.rxAppend bs t).hostData = s.hostData := rfl
@[simp] theorem State.rxAppend_freeCount (s : State) (bs : List Byte) (t : Nat) : (s.rxAppend bs t).freeCount = s.freeCount := rfl
@[simp] theorem State.rxAppend_resets (s : State) (bs : List Byte) (t : Nat) : (s.rxAppend bs t).resets = s.resets := rfl

/-! ### raise -/

@[simp] theorem State.raise_cfg (s : State) (e : Err) : (s.raise e).cfg = s.cfg := rfl
@[simp] theorem State.raise_x (s : State) (e : Err) : (s.raise e).x = s.x := rfl
@[simp] theorem State.raise_wcoil (s : State) (e : Err) : (s.raise e).wcoil = s.wcoil := rfl
@[simp] theorem State.raise_wreg (s : State) (e : Err) : (s.raise e).wreg = s.wreg := rfl
@[simp] theorem State.raise_written (s : State) (e : Err) : (s.raise e).written = s.written := rfl
@[simp] theorem State.raise_rbits (s : State) (e : Err) : (s.raise e).rbits = s.rbits := rfl
@[simp] theorem State.raise_rregs (s : State) (e : Err) : (s.raise e).rregs = s.rregs := rfl
@[simp] theorem State.raise_seq (s : State) (e : Err) : (s.raise e).seq = .failed := rfl
@[simp] theorem State.raise_txn (s : State) (e : Err) : (s.raise e).txn = s.txn := rfl
@[simp] theorem State.raise_rErr (s : State) (e : Err) : (s.raise e).rErr = e.code := rfl
@[simp] theorem State.raise_rExc (s : State) (e : Err) : (s.raise e).rExc = e.info := rfl
@[simp] theorem State.raise_rAck (s : State) (e : Err) : (s.raise e).rAck = false := rfl
@[simp] theorem State.raise_rCount (s : State) (e : Err) : (s.raise e).rCount = 0#16 := rfl
@[simp] theorem State.raise_txbuf (s : State) (e : Err) : (s.raise e).txbuf = s.txbuf := rfl
@[simp] theorem State.raise_txlen (s : State) (e : Err) : (s.raise e).txlen = s.txlen := rfl
@[simp] theorem State.raise_rxbuf (s : State) (e : Err) : (s.raise e).rxbuf = s.rxbuf := rfl
@[simp] theorem State.raise_rxlen (s : State) (e : Err) : (s.raise e).rxlen = s.rxlen := rfl
@[simp] theorem State.raise_tStart (s : State) (e : Err) : (s.raise e).tStart = s.tStart := rfl
@[simp] theorem State.raise_tLast (s : State) (e : Err) : (s.raise e).tLast = s.tLast := rfl
@[simp] theorem State.raise_crc (s : State) (e : Err) : (s.raise e).crc = s.crc := rfl
@[simp] theorem State.raise_de (s : State) (e : Err) : (s.raise e).de = s.de := rfl
@[simp] theorem State.raise_rxq (s : State) (e : Err) : (s.raise e).rxq = s.rxq := rfl
@[simp] theorem State.raise_txDone (s : State) (e : Err) : (s.raise e).txDone = s.txDone := rfl
@[simp] theorem State.raise_now (s : State) (e : Err) : (s.raise e).now = s.now := rfl
@[simp] theorem State.raise_events (s : State) (e : Err) : (s.raise e).events = s.events := rfl
@[simp] theorem State.raise_agenda (s : State) (e : Err) : (s.raise e).agenda = s.agenda := rfl
@[simp] theorem State.raise_hostData (s : State) (e : Err) : (s.raise e).hostData = s.hostData := rfl
@[simp] theorem State.raise_freeCount (s : State) (e : Err) : (s.raise e).freeCount = s.freeCount := rfl
@[simp] theorem State.raise_resets (s : State) (e : Err) : (s.raise e).resets = s.resets := rfl

/-! ### clearResults -/

@[simp] theorem State.clearResults_cfg (s : State) : (s.clearResults).cfg = s.cfg := rfl
@[simp] theorem State.clearResults_x (s : State) : (s.clearResults).x = s.x := rfl
@[simp] theorem State.clearResults_wcoil (s : State) : (s.clearResults).wcoil = s.wcoil := rfl
@[simp] theorem State.clearResults_wreg (s : State) : (s.clearResults).wreg = s.wreg := rfl
@[simp] theorem State.clearResults_written (s : State) : (s.clearResults).written = s.written := rfl
@[simp] theorem State.clearResults_rbits (s : State) : (s.clearResults).rbits = s.rbits := rfl
@[simp] theorem State.clearResults_rregs (s : State) : (s.clearResults).rregs = s.rregs := rfl
@[simp] theorem State.clearResults_seq (s : State) : (s.clearResults).seq = s.seq := rfl
@[simp] theorem State.clearResults_txn (s : State) : (s.clearResults).txn = s.txn := rfl
@[simp] theorem State.clearResults_rErr (s : State) : (s.clearResults).rErr = .none := rfl
@[simp] theorem State.clearResults_rExc (s : State) : (s.clearResults).rExc = 0#8 := rfl
@[simp] theorem State.clearResults_rAck (s : State) : (s.clearResults).rAck = false := rfl
@[simp] theorem State.clearResults_rCount (s : State) : (s.clearResults).rCount = 0#16 := rfl
@[simp] theorem State.clearResults_txbuf (s : State) : (s.clearResults).txbuf = s.txbuf := rfl
@[simp] theorem State.clearResults_txlen (s : State) : (s.clearResults).txlen = s.txlen := rfl
@[simp] theorem State.clearResults_rxbuf (s : State) : (s.clearResults).rxbuf = s.rxbuf := rfl
@[simp] theorem State.clearResults_rxlen (s : State) : (s.clearResults).rxlen = s.rxlen := rfl
@[simp] theorem State.clearResults_tStart (s : State) : (s.clearResults).tStart = s.tStart := rfl
@[simp] theorem State.clearResults_tLast (s : State) : (s.clearResults).tLast = s.tLast := rfl
@[simp] theorem State.clearResults_crc (s : State) : (s.clearResults).crc = s.crc := rfl
@[simp] theorem State.clearResults_de (s : State) : (s.clearResults).de = s.de := rfl
@[simp] theorem State.clearResults_rxq (s : State) : (s.clearResults).rxq = s.rxq := rfl
@[simp] theorem State.clearResults_txDone (s : State) : (s.clearResults).txDone = s.txDone := rfl
@[simp] theorem State.clearResults_now (s : State) : (s.clearResults).now = s.now := rfl
@[simp] theorem State.clearResults_events (s : State) : (s.clearResults).events = s.events := rfl
@[simp] theorem State.clearResults_agenda (s : State) : (s.clearResults).agenda = s.agenda := rfl
@[simp] theorem State.clearResults_hostData (s : State) : (s.clearResults).hostData = s.hostData := rfl
@[simp] theorem State.clearResults_freeCount (s : State) : (s.clearResults).freeCount = s.freeCount := rfl
@[simp] theorem State.clearResults_resets (s : State) : (s.clearResults).resets = s.resets := rfl

/-! ### latchTxn -/

@[simp] theorem State.latchTxn_cfg (s : State) (x : Operands) : (s.latchTxn x).cfg = s.cfg := rfl
@[simp] theorem State.latchTxn_x (s : State) (x : Operands) : (s.latchTxn x).x = s.x := rfl
@[simp] theorem State.latchTxn_wcoil (s : State) (x : Operands) : (s.latchTxn x).wcoil = s.wcoil := rfl
@[simp] theorem State.latchTxn_wreg (s : State) (x : Operands) : (s.latchTxn x).wreg = s.wreg := rfl
@[simp] theorem State.latchTxn_written (s : State) (x : Operands) : (s.latchTxn x).written = s.written := rfl
@[simp] theorem State.latchTxn_rbits (s : State) (x : Operands) : (s.latchTxn x).rbits = s.rbits := rfl
@[simp] theorem State.latchTxn_rregs (s : State) (x : Operands) : (s.latchTxn x).rregs = s.rregs := rfl
@[simp] theorem State.latchTxn_seq (s : State) (x : Operands) : (s.latchTxn x).seq = s.seq := rfl
@[simp] theorem State.latchTxn_txn (s : State) (x : Operands) : (s.latchTxn x).txn = x.latch := rfl
@[simp] theorem State.latchTxn_rErr (s : State) (x : Operands) : (s.latchTxn x).rErr = s.rErr := rfl
@[simp] theorem State.latchTxn_rExc (s : State) (x : Operands) : (s.latchTxn x).rExc = s.rExc := rfl
@[simp] theorem State.latchTxn_rAck (s : State) (x : Operands) : (s.latchTxn x).rAck = s.rAck := rfl
@[simp] theorem State.latchTxn_rCount (s : State) (x : Operands) : (s.latchTxn x).rCount = s.rCount := rfl
@[simp] theorem State.latchTxn_txbuf (s : State) (x : Operands) : (s.latchTxn x).txbuf = s.txbuf := rfl
@[simp] theorem State.latchTxn_txlen (s : State) (x : Operands) : (s.latchTxn x).txlen = s.txlen := rfl
@[simp] theorem State.latchTxn_rxbuf (s : State) (x : Operands) : (s.latchTxn x).rxbuf = s.rxbuf := rfl
@[simp] theorem State.latchTxn_rxlen (s : State) (x : Operands) : (s.latchTxn x).rxlen = s.rxlen := rfl
@[simp] theorem State.latchTxn_tStart (s : State) (x : Operands) : (s.latchTxn x).tStart = s.tStart := rfl
@[simp] theorem State.latchTxn_tLast (s : State) (x : Operands) : (s.latchTxn x).tLast = s.tLast := rfl
@[simp] theorem State.latchTxn_crc (s : State) (x : Operands) : (s.latchTxn x).crc = s.crc := rfl
@[simp] theorem State.latchTxn_de (s : State) (x : Operands) : (s.latchTxn x).de = s.de := rfl
@[simp] theorem State.latchTxn_rxq (s : State) (x : Operands) : (s.latchTxn x).rxq = s.rxq := rfl
@[simp] theorem State.latchTxn_txDone (s : State) (x : Operands) : (s.latchTxn x).txDone = s.txDone := rfl
@[simp] theorem State.latchTxn_now (s : State) (x : Operands) : (s.latchTxn x).now = s.now := rfl
@[simp] theorem State.latchTxn_events (s : State) (x : Operands) : (s.latchTxn x).events = s.events := rfl
@[simp] theorem State.latchTxn_agenda (s : State) (x : Operands) : (s.latchTxn x).agenda = s.agenda := rfl
@[simp] theorem State.latchTxn_hostData (s : State) (x : Operands) : (s.latchTxn x).hostData = s.hostData := rfl
@[simp] theorem State.latchTxn_freeCount (s : State) (x : Operands) : (s.latchTxn x).freeCount = s.freeCount := rfl
@[simp] theorem State.latchTxn_resets (s : State) (x : Operands) : (s.latchTxn x).resets = s.resets := rfl

/-! ### completeBits -/

@[simp] theorem State.completeBits_cfg (s : State) (bits : List Bool) (c : Word) : (s.completeBits bits c).cfg = s.cfg := rfl
@[simp] theorem State.completeBits_x (s : State) (bits : List Bool) (c : Word) : (s.completeBits bits c).x = s.x := rfl
@[simp] theorem State.completeBits_wcoil (s : State) (bits : List Bool) (c : Word) : (s.completeBits bits c).wcoil = s.wcoil := rfl
@[simp] theorem State.completeBits_wreg (s : State) (bits : List Bool) (c : Word) : (s.completeBits bits c).wreg = s.wreg := rfl
@[simp] theorem State.completeBits_written (s : State) (bits : List Bool) (c : Word) : (s.completeBits bits c).written = s.written := rfl
@[simp] theorem State.completeBits_rbits (s : State) (bits : List Bool) (c : Word) : (s.completeBits bits c).rbits = Memory.writeList 0 bits s.rbits := rfl
@[simp] theorem State.completeBits_rregs (s : State) (bits : List Bool) (c : Word) : (s.completeBits bits c).rregs = s.rregs := rfl
@[simp] theorem State.completeBits_seq (s : State) (bits : List Bool) (c : Word) : (s.completeBits bits c).seq = .completed := rfl
@[simp] theorem State.completeBits_txn (s : State) (bits : List Bool) (c : Word) : (s.completeBits bits c).txn = s.txn := rfl
@[simp] theorem State.completeBits_rErr (s : State) (bits : List Bool) (c : Word) : (s.completeBits bits c).rErr = s.rErr := rfl
@[simp] theorem State.completeBits_rExc (s : State) (bits : List Bool) (c : Word) : (s.completeBits bits c).rExc = s.rExc := rfl
@[simp] theorem State.completeBits_rAck (s : State) (bits : List Bool) (c : Word) : (s.completeBits bits c).rAck = s.rAck := rfl
@[simp] theorem State.completeBits_rCount (s : State) (bits : List Bool) (c : Word) : (s.completeBits bits c).rCount = c := rfl
@[simp] theorem State.completeBits_txbuf (s : State) (bits : List Bool) (c : Word) : (s.completeBits bits c).txbuf = s.txbuf := rfl
@[simp] theorem State.completeBits_txlen (s : State) (bits : List Bool) (c : Word) : (s.completeBits bits c).txlen = s.txlen := rfl
@[simp] theorem State.completeBits_rxbuf (s : State) (bits : List Bool) (c : Word) : (s.completeBits bits c).rxbuf = s.rxbuf := rfl
@[simp] theorem State.completeBits_rxlen (s : State) (bits : List Bool) (c : Word) : (s.completeBits bits c).rxlen = s.rxlen := rfl
@[simp] theorem State.completeBits_tStart (s : State) (bits : List Bool) (c : Word) : (s.completeBits bits c).tStart = s.tStart := rfl
@[simp] theorem State.completeBits_tLast (s : State) (bits : List Bool) (c : Word) : (s.completeBits bits c).tLast = s.tLast := rfl
@[simp] theorem State.completeBits_crc (s : State) (bits : List Bool) (c : Word) : (s.completeBits bits c).crc = s.crc := rfl
@[simp] theorem State.completeBits_de (s : State) (bits : List Bool) (c : Word) : (s.completeBits bits c).de = s.de := rfl
@[simp] theorem State.completeBits_rxq (s : State) (bits : List Bool) (c : Word) : (s.completeBits bits c).rxq = s.rxq := rfl
@[simp] theorem State.completeBits_txDone (s : State) (bits : List Bool) (c : Word) : (s.completeBits bits c).txDone = s.txDone := rfl
@[simp] theorem State.completeBits_now (s : State) (bits : List Bool) (c : Word) : (s.completeBits bits c).now = s.now := rfl
@[simp] theorem State.completeBits_events (s : State) (bits : List Bool) (c : Word) : (s.completeBits bits c).events = s.events := rfl
@[simp] theorem State.completeBits_agenda (s : State) (bits : List Bool) (c : Word) : (s.completeBits bits c).agenda = s.agenda := rfl
@[simp] theorem State.completeBits_hostData (s : State) (bits : List Bool) (c : Word) : (s.completeBits bits c).hostData = s.hostData := rfl
@[simp] theorem State.completeBits_freeCount (s : State) (bits : List Bool) (c : Word) : (s.completeBits bits c).freeCount = s.freeCount := rfl
@[simp] theorem State.completeBits_resets (s : State) (bits : List Bool) (c : Word) : (s.completeBits bits c).resets = s.resets := rfl

/-! ### completeRegs -/

@[simp] theorem State.completeRegs_cfg (s : State) (regs : List Word) (c : Word) : (s.completeRegs regs c).cfg = s.cfg := rfl
@[simp] theorem State.completeRegs_x (s : State) (regs : List Word) (c : Word) : (s.completeRegs regs c).x = s.x := rfl
@[simp] theorem State.completeRegs_wcoil (s : State) (regs : List Word) (c : Word) : (s.completeRegs regs c).wcoil = s.wcoil := rfl
@[simp] theorem State.completeRegs_wreg (s : State) (regs : List Word) (c : Word) : (s.completeRegs regs c).wreg = s.wreg := rfl
@[simp] theorem State.completeRegs_written (s : State) (regs : List Word) (c : Word) : (s.completeRegs regs c).written = s.written := rfl
@[simp] theorem State.completeRegs_rbits (s : State) (regs : List Word) (c : Word) : (s.completeRegs regs c).rbits = s.rbits := rfl
@[simp] theorem State.completeRegs_rregs (s : State) (regs : List Word) (c : Word) : (s.completeRegs regs c).rregs = Memory.writeList 0 regs s.rregs := rfl
@[simp] theorem State.completeRegs_seq (s : State) (regs : List Word) (c : Word) : (s.completeRegs regs c).seq = .completed := rfl
@[simp] theorem State.completeRegs_txn (s : State) (regs : List Word) (c : Word) : (s.completeRegs regs c).txn = s.txn := rfl
@[simp] theorem State.completeRegs_rErr (s : State) (regs : List Word) (c : Word) : (s.completeRegs regs c).rErr = s.rErr := rfl
@[simp] theorem State.completeRegs_rExc (s : State) (regs : List Word) (c : Word) : (s.completeRegs regs c).rExc = s.rExc := rfl
@[simp] theorem State.completeRegs_rAck (s : State) (regs : List Word) (c : Word) : (s.completeRegs regs c).rAck = s.rAck := rfl
@[simp] theorem State.completeRegs_rCount (s : State) (regs : List Word) (c : Word) : (s.completeRegs regs c).rCount = c := rfl
@[simp] theorem State.completeRegs_txbuf (s : State) (regs : List Word) (c : Word) : (s.completeRegs regs c).txbuf = s.txbuf := rfl
@[simp] theorem State.completeRegs_txlen (s : State) (regs : List Word) (c : Word) : (s.completeRegs regs c).txlen = s.txlen := rfl
@[simp] theorem State.completeRegs_rxbuf (s : State) (regs : List Word) (c : Word) : (s.completeRegs regs c).rxbuf = s.rxbuf := rfl
@[simp] theorem State.completeRegs_rxlen (s : State) (regs : List Word) (c : Word) : (s.completeRegs regs c).rxlen = s.rxlen := rfl
@[simp] theorem State.completeRegs_tStart (s : State) (regs : List Word) (c : Word) : (s.completeRegs regs c).tStart = s.tStart := rfl
@[simp] theorem State.completeRegs_tLast (s : State) (regs : List Word) (c : Word) : (s.completeRegs regs c).tLast = s.tLast := rfl
@[simp] theorem State.completeRegs_crc (s : State) (regs : List Word) (c : Word) : (s.completeRegs regs c).crc = s.crc := rfl
@[simp] theorem State.completeRegs_de (s : State) (regs : List Word) (c : Word) : (s.completeRegs regs c).de = s.de := rfl
@[simp] theorem State.completeRegs_rxq (s : State) (regs : List Word) (c : Word) : (s.completeRegs regs c).rxq = s.rxq := rfl
@[simp] theorem State.completeRegs_txDone (s : State) (regs : List Word) (c : Word) : (s.completeRegs regs c).txDone = s.txDone := rfl
@[simp] theorem State.completeRegs_now (s : State) (regs : List Word) (c : Word) : (s.completeRegs regs c).now = s.now := rfl
@[simp] theorem State.completeRegs_events (s : State) (regs : List Word) (c : Word) : (s.completeRegs regs c).events = s.events := rfl
@[simp] theorem State.completeRegs_agenda (s : State) (regs : List Word) (c : Word) : (s.completeRegs regs c).agenda = s.agenda := rfl
@[simp] theorem State.completeRegs_hostData (s : State) (regs : List Word) (c : Word) : (s.completeRegs regs c).hostData = s.hostData := rfl
@[simp] theorem State.completeRegs_freeCount (s : State) (regs : List Word) (c : Word) : (s.completeRegs regs c).freeCount = s.freeCount := rfl
@[simp] theorem State.completeRegs_resets (s : State) (regs : List Word) (c : Word) : (s.completeRegs regs c).resets = s.resets := rfl

/-! ### completeAck -/

@[simp] theorem State.completeAck_cfg (s : State) (b : Bool) : (s.completeAck b).cfg = s.cfg := rfl
@[simp] theorem State.completeAck_x (s : State) (b : Bool) : (s.completeAck b).x = s.x := rfl
@[simp] theorem State.completeAck_wcoil (s : State) (b : Bool) : (s.completeAck b).wcoil = s.wcoil := rfl
@[simp] theorem State.completeAck_wreg (s : State) (b : Bool) : (s.completeAck b).wreg = s.wreg := rfl
@[simp] theorem State.completeAck_written (s : State) (b : Bool) : (s.completeAck b).written = s.written := rfl
@[simp] theorem State.completeAck_rbits (s : State) (b : Bool) : (s.completeAck b).rbits = s.rbits := rfl
@[simp] theorem State.completeAck_rregs (s : State) (b : Bool) : (s.completeAck b).rregs = s.rregs := rfl
@[simp] theorem State.completeAck_seq (s : State) (b : Bool) : (s.completeAck b).seq = .completed := rfl
@[simp] theorem State.completeAck_txn (s : State) (b : Bool) : (s.completeAck b).txn = s.txn := rfl
@[simp] theorem State.completeAck_rErr (s : State) (b : Bool) : (s.completeAck b).rErr = s.rErr := rfl
@[simp] theorem State.completeAck_rExc (s : State) (b : Bool) : (s.completeAck b).rExc = s.rExc := rfl
@[simp] theorem State.completeAck_rAck (s : State) (b : Bool) : (s.completeAck b).rAck = b := rfl
@[simp] theorem State.completeAck_rCount (s : State) (b : Bool) : (s.completeAck b).rCount = s.rCount := rfl
@[simp] theorem State.completeAck_txbuf (s : State) (b : Bool) : (s.completeAck b).txbuf = s.txbuf := rfl
@[simp] theorem State.completeAck_txlen (s : State) (b : Bool) : (s.completeAck b).txlen = s.txlen := rfl
@[simp] theorem State.completeAck_rxbuf (s : State) (b : Bool) : (s.completeAck b).rxbuf = s.rxbuf := rfl
@[simp] theorem State.completeAck_rxlen (s : State) (b : Bool) : (s.completeAck b).rxlen = s.rxlen := rfl
@[simp] theorem State.completeAck_tStart (s : State) (b : Bool) : (s.completeAck b).tStart = s.tStart := rfl
@[simp] theorem State.completeAck_tLast (s : State) (b : Bool) : (s.completeAck b).tLast = s.tLast := rfl
@[simp] theorem State.completeAck_crc (s : State) (b : Bool) : (s.completeAck b).crc = s.crc := rfl
@[simp] theorem State.completeAck_de (s : State) (b : Bool) : (s.completeAck b).de = s.de := rfl
@[simp] theorem State.completeAck_rxq (s : State) (b : Bool) : (s.completeAck b).rxq = s.rxq := rfl
@[simp] theorem State.completeAck_txDone (s : State) (b : Bool) : (s.completeAck b).txDone = s.txDone := rfl
@[simp] theorem State.completeAck_now (s : State) (b : Bool) : (s.completeAck b).now = s.now := rfl
@[simp] theorem State.completeAck_events (s : State) (b : Bool) : (s.completeAck b).events = s.events := rfl
@[simp] theorem State.completeAck_agenda (s : State) (b : Bool) : (s.completeAck b).agenda = s.agenda := rfl
@[simp] theorem State.completeAck_hostData (s : State) (b : Bool) : (s.completeAck b).hostData = s.hostData := rfl
@[simp] theorem State.completeAck_freeCount (s : State) (b : Bool) : (s.completeAck b).freeCount = s.freeCount := rfl
@[simp] theorem State.completeAck_resets (s : State) (b : Bool) : (s.completeAck b).resets = s.resets := rfl

/-! ### deliver -/

@[simp] theorem State.deliver_cfg (s : State) (c : Option Word) (v : Int) : (s.deliver c v).cfg = s.cfg := rfl
@[simp] theorem State.deliver_x (s : State) (c : Option Word) (v : Int) : (s.deliver c v).x = s.x := rfl
@[simp] theorem State.deliver_wcoil (s : State) (c : Option Word) (v : Int) : (s.deliver c v).wcoil = s.wcoil := rfl
@[simp] theorem State.deliver_wreg (s : State) (c : Option Word) (v : Int) : (s.deliver c v).wreg = s.wreg := rfl
@[simp] theorem State.deliver_written (s : State) (c : Option Word) (v : Int) : (s.deliver c v).written = s.written := rfl
@[simp] theorem State.deliver_rbits (s : State) (c : Option Word) (v : Int) : (s.deliver c v).rbits = s.rbits := rfl
@[simp] theorem State.deliver_rregs (s : State) (c : Option Word) (v : Int) : (s.deliver c v).rregs = s.rregs := rfl
@[simp] theorem State.deliver_seq (s : State) (c : Option Word) (v : Int) : (s.deliver c v).seq = s.seq := rfl
@[simp] theorem State.deliver_txn (s : State) (c : Option Word) (v : Int) : (s.deliver c v).txn = s.txn := rfl
@[simp] theorem State.deliver_rErr (s : State) (c : Option Word) (v : Int) : (s.deliver c v).rErr = s.rErr := rfl
@[simp] theorem State.deliver_rExc (s : State) (c : Option Word) (v : Int) : (s.deliver c v).rExc = s.rExc := rfl
@[simp] theorem State.deliver_rAck (s : State) (c : Option Word) (v : Int) : (s.deliver c v).rAck = s.rAck := rfl
@[simp] theorem State.deliver_rCount (s : State) (c : Option Word) (v : Int) : (s.deliver c v).rCount = s.rCount := rfl
@[simp] theorem State.deliver_txbuf (s : State) (c : Option Word) (v : Int) : (s.deliver c v).txbuf = s.txbuf := rfl
@[simp] theorem State.deliver_txlen (s : State) (c : Option Word) (v : Int) : (s.deliver c v).txlen = s.txlen := rfl
@[simp] theorem State.deliver_rxbuf (s : State) (c : Option Word) (v : Int) : (s.deliver c v).rxbuf = s.rxbuf := rfl
@[simp] theorem State.deliver_rxlen (s : State) (c : Option Word) (v : Int) : (s.deliver c v).rxlen = s.rxlen := rfl
@[simp] theorem State.deliver_tStart (s : State) (c : Option Word) (v : Int) : (s.deliver c v).tStart = s.tStart := rfl
@[simp] theorem State.deliver_tLast (s : State) (c : Option Word) (v : Int) : (s.deliver c v).tLast = s.tLast := rfl
@[simp] theorem State.deliver_crc (s : State) (c : Option Word) (v : Int) : (s.deliver c v).crc = s.crc := rfl
@[simp] theorem State.deliver_de (s : State) (c : Option Word) (v : Int) : (s.deliver c v).de = s.de := rfl
@[simp] theorem State.deliver_rxq (s : State) (c : Option Word) (v : Int) : (s.deliver c v).rxq = s.rxq := rfl
@[simp] theorem State.deliver_txDone (s : State) (c : Option Word) (v : Int) : (s.deliver c v).txDone = s.txDone := rfl
@[simp] theorem State.deliver_now (s : State) (c : Option Word) (v : Int) : (s.deliver c v).now = s.now := rfl
@[simp] theorem State.deliver_resets (s : State) (c : Option Word) (v : Int) : (s.deliver c v).resets = s.resets := rfl
@[simp] theorem State.deliver_events (s : State) (c : Option Word) (v : Int) : (s.deliver c v).events = s.events := rfl
@[simp] theorem State.deliver_agenda (s : State) (c : Option Word) (v : Int) : (s.deliver c v).agenda = s.agenda := rfl
@[simp] theorem State.deliver_hostData (s : State) (c : Option Word) (v : Int) : (s.deliver c v).hostData = v := rfl
@[simp] theorem State.deliver_freeCount (s : State) (c : Option Word) (v : Int) : (s.deliver c v).freeCount = if c.isNone then s.freeCount + 1 else s.freeCount := rfl

/-! ### crcRun -/

@[simp] theorem State.crcRun_cfg (s : State) (m : List Byte) : (s.crcRun m).cfg = s.cfg := by rw [State.crcRun_eq]
@[simp] theorem State.crcRun_x (s : State) (m : List Byte) : (s.crcRun m).x = s.x := by rw [State.crcRun_eq]
@[simp] theorem State.crcRun_wcoil (s : State) (m : List Byte) : (s.crcRun m).wcoil = s.wcoil := by rw [State.crcRun_eq]
@[simp] theorem State.crcRun_wreg (s : State) (m : List Byte) : (s.crcRun m).wreg = s.wreg := by rw [State.crcRun_eq]
@[simp] theorem State.crcRun_written (s : State) (m : List Byte) : (s.crcRun m).written = s.written := by rw [State.crcRun_eq]
@[simp] theorem State.crcRun_rbits (s : State) (m : List Byte) : (s.crcRun m).rbits = s.rbits := by rw [State.crcRun_eq]
@[simp] theorem State.crcRun_rregs (s : State) (m : List Byte) : (s.crcRun m).rregs = s.rregs := by rw [State.crcRun_eq]
@[simp] theorem State.crcRun_seq (s : State) (m : List Byte) : (s.crcRun m).seq = s.seq := by rw [State.crcRun_eq]
@[simp] theorem State.crcRun_txn (s : State) (m : List Byte) : (s.crcRun m).txn = s.txn := by rw [State.crcRun_eq]
@[simp] theorem State.crcRun_rErr (s : State) (m : List Byte) : (s.crcRun m).rErr = s.rErr := by rw [State.crcRun_eq]
@[simp] theorem State.crcRun_rExc (s : State) (m : List Byte) : (s.crcRun m).rExc = s.rExc := by rw [State.crcRun_eq]
@[simp] theorem State.crcRun_rAck (s : State) (m : List Byte) : (s.crcRun m).rAck = s.rAck := by rw [State.crcRun_eq]
@[simp] theorem State.crcRun_rCount (s : State) (m : List Byte) : (s.crcRun m).rCount = s.rCount := by rw [State.crcRun_eq]
@[simp] theorem State.crcRun_txbuf (s : State) (m : List Byte) : (s.crcRun m).txbuf = s.txbuf := by rw [State.crcRun_eq]
@[simp] theorem State.crcRun_txlen (s : State) (m : List Byte) : (s.crcRun m).txlen = s.txlen := by rw [State.crcRun_eq]
@[simp] theorem State.crcRun_rxbuf (s : State) (m : List Byte) : (s.crcRun m).rxbuf = s.rxbuf := by rw [State.crcRun_eq]
@[simp] theorem State.crcRun_rxlen (s : State) (m : List Byte) : (s.crcRun m).rxlen = s.rxlen := by rw [State.crcRun_eq]
@[simp] theorem State.crcRun_tStart (s : State) (m : List Byte) : (s.crcRun m).tStart = s.tStart := by rw [State.crcRun_eq]
@[simp] theorem State.crcRun_tLast (s : State) (m : List Byte) : (s.crcRun m).tLast = s.tLast := by rw [State.crcRun_eq]
@[simp] theorem State.crcRun_crc (s : State) (m : List Byte) : (s.crcRun m).crc = crc16 m := by rw [State.crcRun_eq]
@[simp] theorem State.crcRun_de (s : State) (m : List Byte) : (s.crcRun m).de = s.de := by rw [State.crcRun_eq]
@[simp] theorem State.crcRun_rxq (s : State) (m : List Byte) : (s.crcRun m).rxq = s.rxq := by rw [State.crcRun_eq]
@[simp] theorem State.crcRun_txDone (s : State) (m : List Byte) : (s.crcRun m).txDone = s.txDone := by rw [State.crcRun_eq]
@[simp] theorem State.crcRun_now (s : State) (m : List Byte) : (s.crcRun m).now = s.now := by rw [State.crcRun_eq]
@[simp] theorem State.crcRun_events (s : State) (m : List Byte) : (s.crcRun m).events = s.events := by rw [State.crcRun_eq]
@[simp] theorem State.crcRun_agenda (s : State) (m : List Byte) : (s.crcRun m).agenda = s.agenda := by rw [State.crcRun_eq]
@[simp] theorem State.crcRun_hostData (s : State) (m : List Byte) : (s.crcRun m).hostData = s.hostData := by rw [State.crcRun_eq]
@[simp] theorem State.crcRun_freeCount (s : State) (m : List Byte) : (s.crcRun m).freeCount = s.freeCount := by rw [State.crcRun_eq]
@[simp] theorem State.crcRun_resets (s : State) (m : List Byte) : (s.crcRun m).resets = s.resets := by rw [State.crcRun_eq]

/-! ### driveDe -/

@[simp] theorem State.driveDe_cfg (s : State) (v : Bool) : (s.driveDe v).cfg = s.cfg := by unfold State.driveDe; split <;> simp_all
@[simp] theorem State.driveDe_x (s : State) (v : Bool) : (s.driveDe v).x = s.x := by unfold State.driveDe; split <;> simp_all
@[simp] theorem State.driveDe_wcoil (s : State) (v : Bool) : (s.driveDe v).wcoil = s.wcoil := by unfold State.driveDe; split <;> simp_all
@[simp] theorem State.driveDe_wreg (s : State) (v : Bool) : (s.driveDe v).wreg = s.wreg := by unfold State.driveDe; split <;> simp_all
@[simp] theorem State.driveDe_written (s : State) (v : Bool) : (s.driveDe v).written = s.written := by unfold State.driveDe; split <;> simp_all
@[simp] theorem State.driveDe_rbits (s : State) (v : Bool) : (s.driveDe v).rbits = s.rbits := by unfold State.driveDe; split <;> simp_all
@[simp] theorem State.driveDe_rregs (s : State) (v : Bool) : (s.driveDe v).rregs = s.rregs := by unfold State.driveDe; split <;> simp_all
@[simp] theorem State.driveDe_seq (s : State) (v : Bool) : (s.driveDe v).seq = s.seq := by unfold State.driveDe; split <;> simp_all
@[simp] theorem State.driveDe_txn (s : State) (v : Bool) : (s.driveDe v).txn = s.txn := by unfold State.driveDe; split <;> simp_all
@[simp] theorem State.driveDe_rErr (s : State) (v : Bool) : (s.driveDe v).rErr = s.rErr := by unfold State.driveDe; split <;> simp_all
@[simp] theorem State.driveDe_rExc (s : State) (v : Bool) : (s.driveDe v).rExc = s.rExc := by unfold State.driveDe; split <;> simp_all
@[simp] theorem State.driveDe_rAck (s : State) (v : Bool) : (s.driveDe v).rAck = s.rAck := by unfold State.driveDe; split <;> simp_all
@[simp] theorem State.driveDe_rCount (s : State) (v : Bool) : (s.driveDe v).rCount = s.rCount := by unfold State.driveDe; split <;> simp_all
@[simp] theorem State.driveDe_txbuf (s : State) (v : Bool) : (s.driveDe v).txbuf = s.txbuf := by unfold State.driveDe; split <;> simp_all
@[simp] theorem State.driveDe_txlen (s : State) (v : Bool) : (s.driveDe v).txlen = s.txlen := by unfold State.driveDe; split <;> simp_all
@[simp] theorem State.driveDe_rxbuf (s : State) (v : Bool) : (s.driveDe v).rxbuf = s.rxbuf := by unfold State.driveDe; split <;> simp_all
@[simp] theorem State.driveDe_rxlen (s : State) (v : Bool) : (s.driveDe v).rxlen = s.rxlen := by unfold State.driveDe; split <;> simp_all
@[simp] theorem State.driveDe_tStart (s : State) (v : Bool) : (s.driveDe v).tStart = s.tStart := by unfold State.driveDe; split <;> simp_all
@[simp] theorem State.driveDe_tLast (s : State) (v : Bool) : (s.driveDe v).tLast = s.tLast := by unfold State.driveDe; split <;> simp_all
@[simp] theorem State.driveDe_crc (s : State) (v : Bool) : (s.driveDe v).crc = s.crc := by unfold State.driveDe; split <;> simp_all
@[simp] theorem State.driveDe_de (s : State) (v : Bool) : (s.driveDe v).de = if s.cfg.dePresent then v else s.de := by unfold State.driveDe; split <;> simp_all
@[simp] theorem State.driveDe_rxq (s : State) (v : Bool) : (s.driveDe v).rxq = s.rxq := by unfold State.driveDe; split <;> simp_all
@[simp] theorem State.driveDe_txDone (s : State) (v : Bool) : (s.driveDe v).txDone = s.txDone := by unfold State.driveDe; split <;> simp_all
@[simp] theorem State.driveDe_now (s : State) (v : Bool) : (s.driveDe v).now = s.now := by unfold State.driveDe; split <;> simp_all
@[simp] theorem State.driveDe_events (s : State) (v : Bool) : (s.driveDe v).events = if s.cfg.dePresent then s.events ++ [.de v] else s.events := by unfold State.driveDe; split <;> simp_all
@[simp] theorem State.driveDe_agenda (s : State) (v : Bool) : (s.driveDe v).agenda = s.agenda := by unfold State.driveDe; split <;> simp_all
@[simp] theorem State.driveDe_hostData (s : State) (v : Bool) : (s.driveDe v).hostData = s.hostData := by unfold State.driveDe; split <;> simp_all
@[simp] theorem State.driveDe_freeCount (s : State) (v : Bool) : (s.driveDe v).freeCount = s.freeCount := by unfold State.driveDe; split <;> simp_all
@[simp] theorem State.driveDe_resets (s : State) (v : Bool) : (s.driveDe v).resets = s.resets := by unfold State.driveDe; split <;> simp_all

end Sys2Proof.Machine
end

