-- ==== Sys2Proof/Laws/Exec.lean ====
section
/-! SUPPORT. What each shared operation of the sequencer can do, said once: `exec` as `transact`, the cases of `transact`, of the
sending and receiving steps, of the validator's step and of `step`. -/

namespace Sys2Proof.Machine

open Sys2Proof

/-- The encode rule of an operation (R101 to R108). -/
def encodeRule (c : Cfg) : Instr → Except Err (List Byte)
  | .readCoils _ a q => encodeReadCoils a q
  | .readDiscreteInputs _ a q => encodeReadDiscreteInputs a q
  | .readHoldingRegisters _ a q => encodeReadHoldingRegisters a q
  | .readInputRegisters _ a q => encodeReadInputRegisters a q
  | .writeSingleCoil _ a v => encodeWriteSingleCoil a v
  | .writeSingleRegister _ a v => encodeWriteSingleRegister a v
  | .writeMultipleCoils _ a vs => encodeWriteMultipleCoils c.wmcQtyMax a vs
  | .writeMultipleRegisters _ a vs => encodeWriteMultipleRegisters a vs

/-- The decode rule of an operation (R113 to R116). -/
def decodeRule : Instr → List Byte → State → State
  | .readCoils _ _ _ => decodeBits
  | .readDiscreteInputs _ _ _ => decodeBits
  | .readHoldingRegisters _ _ _ => decodeRegs
  | .readInputRegisters _ _ _ => decodeRegs
  | .writeSingleCoil _ _ _ => decodeSingleEcho
  | .writeSingleRegister _ _ _ => decodeSingleEcho
  | .writeMultipleCoils _ _ _ => decodeMultipleEcho
  | .writeMultipleRegisters _ _ _ => decodeMultipleEcho

/-- Every operation runs the common microprogram and differs only in its two rules (R172). -/
theorem exec_eq_transact (i : Instr) (s : State) :
    exec i s = .next (transact (callOperands i s.operands) (encodeRule s.cfg i) (decodeRule i) s) := by
  cases i <;> rfl

/-- No operation ends in a fault or a refusal. -/
theorem exec_next (i : Instr) (s : State) : ∃ t, exec i s = .next t := ⟨_, exec_eq_transact i s⟩

theorem callOperands_fc (i : Instr) (x : Operands) : (callOperands i x).fc = i.functionCode := by cases i <;> rfl

/-- The three cases of the microprogram's step (R171, R172, R181). -/
theorem transact_cases (x : Operands) (p : Except Err (List Byte)) (d : List Byte → State → State) (s : State) :
    (s.busy = false ∧ transact x p d s = go x p s) ∨
    (s.busy = true ∧ s.txn.fc = x.fc ∧ transact x p d s = advance d s) ∨
    (s.busy = true ∧ s.txn.fc ≠ x.fc ∧ transact x p d s = s) := by
  unfold transact
  cases hb : s.busy
  · exact .inl ⟨rfl, by simp⟩
  · by_cases hf : s.txn.fc = x.fc
    · exact .inr (.inl ⟨rfl, hf, by simp [hf]⟩)
    · exact .inr (.inr ⟨rfl, hf, by simp [hf]⟩)

theorem transact_rest {s : State} (h : s.busy = false) (x : Operands) (p : Except Err (List Byte))
    (d : List Byte → State → State) : transact x p d s = go x p s := by simp [transact, h]

theorem transact_own {s : State} (h : s.busy = true) {x : Operands} (hf : s.txn.fc = x.fc) (p : Except Err (List Byte))
    (d : List Byte → State → State) : transact x p d s = advance d s := by simp [transact, h, hf]

/-- GO with an accepted call. -/
theorem go_ok (x : Operands) (p : List Byte) (s : State) :
    go x (.ok p) s = { s with rErr := .none, rExc := 0#8, rAck := false, rCount := 0#16, txn := x.latch,
                              seq := .sending (.build p) } := rfl

/-- GO with a rejected call. -/
theorem go_error (x : Operands) (e : Err) (s : State) :
    go x (.error e) s = { s with rErr := e.code, rExc := e.info, rAck := false, rCount := 0#16, txn := x.latch,
                                 seq := .failed } := rfl

/-- The build of the ADU, as one record. -/
theorem buildAdu_eq (pdu : List Byte) (s : State) :
    buildAdu pdu s = { s with crc := crc16 (s.txn.slave :: pdu),
                              txbuf := Memory.writeList 0 (frame (s.txn.slave :: pdu)) s.txbuf,
                              txlen := (frame (s.txn.slave :: pdu)).length,
                              seq := .sending .drain } := by
  simp only [buildAdu, State.crcRun_eq, State.crcRead]
  rfl

/-- A poll's end: the overall bound or the wait (R137, R138). -/
theorem closePoll_cases (t : Nat) (s : State) :
    (s.tStart + s.cfg.tRespMs ≤ t ∧ closePoll t s = s.goto (.validating .check)) ∨
    (t < s.tStart + s.cfg.tRespMs ∧ closePoll t s = s.goto (.awaitingResponse (.pause (s.now + s.cfg.tPollMs)))) := by
  unfold closePoll
  split
  · exact .inl ⟨‹_›, rfl⟩
  · exact .inr ⟨by omega, rfl⟩

/-- The cases of a poll (R137): it found nothing and the idle time-out ends the loop; it found nothing and goes on to its
end; it found bytes and they complete or fill the buffer; it found bytes and goes on to its end. -/
theorem pollStep_cases (t : Nat) (s : State) :
    (s.rxq = [] ∧ 0 < s.rxlen ∧ s.tLast + s.cfg.tIdle ≤ t ∧ pollStep t s = s.goto (.validating .check)) ∨
    (s.rxq = [] ∧ ¬(0 < s.rxlen ∧ s.tLast + s.cfg.tIdle ≤ t) ∧ pollStep t s = closePoll t s) ∨
    (s.rxq ≠ [] ∧ (complete (s.pollAppend t).rxBytes = true ∨ (s.pollAppend t).rxlen = s.cfg.rxCap) ∧
      pollStep t s = (s.pollAppend t).goto (.validating .check)) ∨
    (s.rxq ≠ [] ∧ complete (s.pollAppend t).rxBytes = false ∧ (s.pollAppend t).rxlen ≠ s.cfg.rxCap ∧
      pollStep t s = closePoll t (s.pollAppend t)) := by
  unfold pollStep State.serAny
  by_cases hq : s.rxq = []
  · simp only [hq, List.length_nil, if_true]
    by_cases hi : 0 < s.rxlen ∧ s.tLast + s.cfg.tIdle ≤ t
    · exact .inl ⟨trivial, hi.1, hi.2, by rw [if_pos hi]⟩
    · exact .inr (.inl ⟨trivial, hi, by rw [if_neg hi]⟩)
  · rw [if_neg (by simpa using hq)]
    by_cases hc : complete (s.pollAppend t).rxBytes = true ∨ (s.pollAppend t).rxlen = s.cfg.rxCap
    · exact .inr (.inr (.inl ⟨hq, hc, by rw [if_pos hc]⟩))
    · refine .inr (.inr (.inr ⟨hq, ?_, fun h => hc (.inr h), by rw [if_neg hc]⟩))
      simpa using fun h => hc (.inl h)

/-- What a poll that found bytes does, as one record (R137). -/
theorem pollAppend_eq (t : Nat) (s : State) :
    s.pollAppend t = { s with rxq := s.rxq.drop s.pollTake, events := s.events ++ [.read (s.rxq.take s.pollTake)],
                              rxbuf := Memory.writeList s.rxlen (s.rxq.take s.pollTake) s.rxbuf,
                              rxlen := s.rxlen + (s.rxq.take s.pollTake).length, tLast := t } := rfl

/-- How many bytes a poll takes. -/
theorem pollTake_length (s : State) : (s.rxq.take s.pollTake).length = s.pollTake := by
  simp [State.pollTake, State.serAny]

theorem checkCrc_eq (b : List Byte) (s : State) :
    s.checkCrc b = { s with crc := if b.length < 4 then s.crc else crc16 (b.take (b.length - 2)) } := by
  unfold State.checkCrc
  split
  · rfl
  · rw [State.crcRun_eq]

/-- The two cases of the `check` step. -/
theorem checkStep_cases (s : State) :
    (∃ e, validate s.rxBytes s.txn = .error e ∧ checkStep s = (s.checkCrc s.rxBytes).raise e) ∨
    (∃ p, validate s.rxBytes s.txn = .ok p ∧
      checkStep s = (s.checkCrc s.rxBytes).goto (.validating (.decode p))) := by
  unfold checkStep
  cases h : validate s.rxBytes s.txn with
  | error e => exact .inl ⟨e, rfl, rfl⟩
  | ok p => exact .inr ⟨p, rfl, rfl⟩

/-- A step with an empty agenda is a turn of the engine; else it is the next turn. -/
theorem step_cases (s : State) :
    (s.agenda = [] ∧ step s = engineTurn s) ∨
    (∃ t rest, s.agenda = t :: rest ∧ step s = takeTurn t { s with agenda := rest }) := by
  unfold step
  cases h : s.agenda with
  | nil => exact .inl ⟨rfl, rfl⟩
  | cons t rest => exact .inr ⟨t, rest, rfl, rfl⟩

/-- A turn of the engine: a step of the running operation, or nothing. -/
theorem engineTurn_cases (s : State) :
    (∃ i, s.busy = true ∧ s.fetchTxn = some i ∧ engineTurn s = exec i s) ∨
    ((s.busy = false ∨ s.fetchTxn = none) ∧ engineTurn s = .next s) := by
  unfold engineTurn
  cases hb : s.busy
  · exact .inr ⟨.inl rfl, rfl⟩
  · cases h : s.fetchTxn with
    | none => exact .inr ⟨.inr rfl, rfl⟩
    | some i => exact .inl ⟨i, rfl, rfl, rfl⟩

/-- The host's GO: ignored, the operation's GO step, or an unknown function code. -/
theorem goTurn_cases (s : State) :
    (s.busy = true ∧ goTurn s = .next s) ∨
    (∃ i, s.busy = false ∧ s.fetchCommand = some i ∧ goTurn s = exec i s) ∨
    (s.busy = false ∧ s.fetchCommand = none ∧ goTurn s = .next (goUnknown s)) := by
  unfold goTurn
  cases hb : s.busy
  · cases h : s.fetchCommand with
    | none => exact .inr (.inr ⟨rfl, rfl, rfl⟩)
    | some i => exact .inr (.inl ⟨i, rfl, rfl, rfl⟩)
  · exact .inl ⟨rfl, rfl⟩

/-- The operation that registers or a record describe has their function code. -/
theorem decodeCommand_functionCode {fc sl : Byte} {a q v : Word} {cs : List Bool} {rs : List Word} {i : Instr}
    (h : decodeCommand fc sl a q v cs rs = some i) : i.functionCode = fc := by
  unfold decodeCommand at h
  split at h <;> simp only [Option.some.injEq, reduceCtorEq] at h <;> subst h <;>
    exact BitVec.eq_of_toNat_eq (by simp_all [Instr.functionCode])

end Sys2Proof.Machine
end

