-- ==== Sys2Proof/Laws/WellFormed.lean ====
section
/-! SUPPORT. What well-formedness says, one lemma per operation. -/

namespace Sys2Proof

theorem isNone_check {p : Prop} [Decidable p] (e : IllFormed) :
    (if p then (none : Option IllFormed) else some e).isNone = true ↔ p := by
  split <;> simp_all

@[simp] theorem wf_readCoils (m : Nat) (s : Byte) (a q : Word) :
    Instr.wf m (.readCoils s a q) = true ↔ 1 ≤ q.toNat ∧ q.toNat ≤ 2000 := isNone_check _

@[simp] theorem wf_readDiscreteInputs (m : Nat) (s : Byte) (a q : Word) :
    Instr.wf m (.readDiscreteInputs s a q) = true ↔ 1 ≤ q.toNat ∧ q.toNat ≤ 2000 := isNone_check _

@[simp] theorem wf_readHoldingRegisters (m : Nat) (s : Byte) (a q : Word) :
    Instr.wf m (.readHoldingRegisters s a q) = true ↔ 1 ≤ q.toNat ∧ q.toNat ≤ 125 := isNone_check _

@[simp] theorem wf_readInputRegisters (m : Nat) (s : Byte) (a q : Word) :
    Instr.wf m (.readInputRegisters s a q) = true ↔ 1 ≤ q.toNat ∧ q.toNat ≤ 125 := isNone_check _

@[simp] theorem wf_writeSingleCoil (m : Nat) (s : Byte) (a v : Word) :
    Instr.wf m (.writeSingleCoil s a v) = true ↔ v = 0x0000#16 ∨ v = 0xFF00#16 := isNone_check _

@[simp] theorem wf_writeSingleRegister (m : Nat) (s : Byte) (a v : Word) :
    Instr.wf m (.writeSingleRegister s a v) = true := rfl

@[simp] theorem wf_writeMultipleCoils (m : Nat) (s : Byte) (a : Word) (vs : List Bool) :
    Instr.wf m (.writeMultipleCoils s a vs) = true ↔ 1 ≤ vs.length ∧ vs.length ≤ m := isNone_check _

@[simp] theorem wf_writeMultipleRegisters (m : Nat) (s : Byte) (a : Word) (vs : List Word) :
    Instr.wf m (.writeMultipleRegisters s a vs) = true ↔ 1 ≤ vs.length ∧ vs.length ≤ 123 := isNone_check _

end Sys2Proof
end

