-- ==== Sys2Proof/Laws/PerInstr.lean ====
section
/-! SUPPORT. Statements for every operation as syntax: the length of its request frame (R77) and the place of its
function code (R60, R61). -/

namespace Sys2Proof.Laws

open Sys2Proof

/-- The request of a well-formed operation has 8 to 255 bytes (R28, R77). -/
def EncodedLength.Statement (i : Instr) : Prop :=
  i.wf wmcCeiling = true → 8 ≤ (encode i).length ∧ (encode i).length ≤ 255

theorem EncodedLength.readCoils (slave : Byte) (addr qty : Word) :
    EncodedLength.Statement (.readCoils slave addr qty) := fun _ => by simp [encode, encodeBody]

theorem EncodedLength.readDiscreteInputs (slave : Byte) (addr qty : Word) :
    EncodedLength.Statement (.readDiscreteInputs slave addr qty) := fun _ => by simp [encode, encodeBody]

theorem EncodedLength.readHoldingRegisters (slave : Byte) (addr qty : Word) :
    EncodedLength.Statement (.readHoldingRegisters slave addr qty) := fun _ => by simp [encode, encodeBody]

theorem EncodedLength.readInputRegisters (slave : Byte) (addr qty : Word) :
    EncodedLength.Statement (.readInputRegisters slave addr qty) := fun _ => by simp [encode, encodeBody]

theorem EncodedLength.writeSingleCoil (slave : Byte) (addr value : Word) :
    EncodedLength.Statement (.writeSingleCoil slave addr value) := fun _ => by simp [encode, encodeBody]

theorem EncodedLength.writeSingleRegister (slave : Byte) (addr value : Word) :
    EncodedLength.Statement (.writeSingleRegister slave addr value) := fun _ => by simp [encode, encodeBody]

theorem EncodedLength.writeMultipleCoils (slave : Byte) (addr : Word) (values : List Bool) :
    EncodedLength.Statement (.writeMultipleCoils slave addr values) := by
  intro h
  have hb : 1 ≤ values.length ∧ values.length ≤ 1968 := (wf_writeMultipleCoils _ _ _ _).1 h
  simp only [encode, frame_length, encodeBody, List.length_append, List.length_cons, List.length_nil, be16_length,
    packBits_length, ceilDiv]
  omega

theorem EncodedLength.writeMultipleRegisters (slave : Byte) (addr : Word) (values : List Word) :
    EncodedLength.Statement (.writeMultipleRegisters slave addr values) := by
  intro h
  have hb := (wf_writeMultipleRegisters _ _ _ _).1 h
  simp only [encode, frame_length, encodeBody, List.length_append, List.length_cons, List.length_nil, be16_length,
    packRegs_length]
  omega

/-- Byte 1 of a request is the operation's function code (R60, R61). -/
def FunctionCodeByte.Statement (i : Instr) : Prop := byteAt (encode i) 1 = i.functionCode

theorem FunctionCodeByte.readCoils (slave : Byte) (addr qty : Word) :
    FunctionCodeByte.Statement (.readCoils slave addr qty) := rfl

theorem FunctionCodeByte.readDiscreteInputs (slave : Byte) (addr qty : Word) :
    FunctionCodeByte.Statement (.readDiscreteInputs slave addr qty) := rfl

theorem FunctionCodeByte.readHoldingRegisters (slave : Byte) (addr qty : Word) :
    FunctionCodeByte.Statement (.readHoldingRegisters slave addr qty) := rfl

theorem FunctionCodeByte.readInputRegisters (slave : Byte) (addr qty : Word) :
    FunctionCodeByte.Statement (.readInputRegisters slave addr qty) := rfl

theorem FunctionCodeByte.writeSingleCoil (slave : Byte) (addr value : Word) :
    FunctionCodeByte.Statement (.writeSingleCoil slave addr value) := rfl

theorem FunctionCodeByte.writeSingleRegister (slave : Byte) (addr value : Word) :
    FunctionCodeByte.Statement (.writeSingleRegister slave addr value) := rfl

theorem FunctionCodeByte.writeMultipleCoils (slave : Byte) (addr : Word) (values : List Bool) :
    FunctionCodeByte.Statement (.writeMultipleCoils slave addr values) := rfl

theorem FunctionCodeByte.writeMultipleRegisters (slave : Byte) (addr : Word) (values : List Word) :
    FunctionCodeByte.Statement (.writeMultipleRegisters slave addr values) := rfl

end Sys2Proof.Laws
end

