-- ==== Sys2Proof/Laws/Step.lean ====
section
/-! SUPPORT. What one step of the machine can do, said once: the moves of the engine, of the host, of the environment and of
the bootstrap layer. -/

namespace Sys2Proof.Machine

open Sys2Proof

/-- What a turn can do to a state. -/
inductive Move (s : State) : State → Prop
  /-- Nothing: an idle engine, a host access that is ignored (R12, R172, R181). -/
  | stay : Move s s
  /-- A step of the running transaction (R172). -/
  | engine (i : Instr) (hb : s.busy = true) (hf : s.fetchTxn = some i) : Move s (advance (decodeRule i) s)
  /-- GO of the operation in the operand registers (R171). -/
  | go (i : Instr) (hb : s.busy = false) (hf : s.fetchCommand = some i) :
      Move s (go (callOperands i s.operands) (encodeRule s.cfg i) s)
  /-- GO with an unknown function code (R72). -/
  | goUnknown (hb : s.busy = false) (hf : s.fetchCommand = none) : Move s (goUnknown s)
  /-- A host write to a register at rest (R10, R11). -/
  | writeReg (n : Nat) (v : Word) (hb : s.busy = false) :
      Move s { s with x := s.x.write n v, written := s.written.markReg n }
  /-- A host write to an element inside its window, at rest (R12). -/
  | writeElem (w : Window) (i : Nat) (v : Word) (hb : s.busy = false) (hi : i < s.windowCap w) : Move s (s.writeWindow w i v)
  /-- A host read (R13, R15 to R20). -/
  | read (d : Int) (f : Nat) : Move s { s with hostData := d, freeCount := f }
  /-- Bytes arrive (R22). -/
  | receive (bs : List Byte) : Move s { s with rxq := s.rxq ++ bs }
  /-- The last stop bit has left (R25). -/
  | txDone : Move s { s with txDone := true }
  /-- Time passes (R27). -/
  | pass (ms : Nat) : Move s { s with now := s.now + ms }
  /-- Reset (R210). -/
  | reset : Move s (s.resetEngine s.cfg)
  /-- Construction with a legal record (R210, U14). -/
  | construct (c : Cfg) (hc : c.valid = true) : Move s (s.resetEngine c)

/-- An operation's step on a state whose transaction it is, or which is at rest. -/
theorem exec_own {i : Instr} {s : State} (hb : s.busy = true) (hf : s.txn.fc = i.functionCode) :
    exec i s = .next (advance (decodeRule i) s) := by
  rw [exec_eq_transact, transact_own hb (by rw [hf, callOperands_fc])]

theorem exec_rest {i : Instr} {s : State} (hb : s.busy = false) :
    exec i s = .next (go (callOperands i s.operands) (encodeRule s.cfg i) s) := by
  rw [exec_eq_transact, transact_rest hb]

theorem fetchTxn_functionCode {s : State} {i : Instr} (h : s.fetchTxn = some i) : s.txn.fc = i.functionCode :=
  (decodeCommand_functionCode h).symm

theorem engineTurn_move {s t : State} (h : engineTurn s = .next t) : Move s t := by
  obtain ⟨i, hb, hf, he⟩ | ⟨-, he⟩ := engineTurn_cases s
  · rw [he, exec_own hb (fetchTxn_functionCode hf)] at h
    injection h with h
    exact h ▸ .engine i hb hf
  · rw [he] at h
    injection h with h
    exact h ▸ .stay

theorem goTurn_move {s t : State} (h : goTurn s = .next t) : Move s t := by
  obtain ⟨-, he⟩ | ⟨i, hb, hf, he⟩ | ⟨hb, hf, he⟩ := goTurn_cases s
  · rw [he] at h
    injection h with h
    exact h ▸ .stay
  · rw [he, exec_rest hb] at h
    injection h with h
    exact h ▸ .go i hb hf
  · rw [he] at h
    injection h with h
    exact h ▸ .goUnknown hb hf

theorem hostTurn_move {a : HostAct} {s t : State} (h : hostTurn a s = .next t) : Move s t := by
  cases a with
  | writeReg n v =>
    simp only [hostTurn] at h
    split at h
    · split at h
      · exact goTurn_move h
      · injection h with h
        subst h
        unfold State.hostWriteReg
        split
        · exact .stay
        · exact .writeReg n v (by simpa using ‹¬s.busy = true›)
    · cases h
  | readReg n =>
    simp only [hostTurn] at h
    split at h
    · injection h with h
      exact h ▸ .read _ _
    · cases h
  | writeElem w i v =>
    simp only [hostTurn] at h
    split at h
    · injection h with h
      subst h
      unfold State.hostWriteElem
      split
      · exact .stay
      · exact .writeElem w i v (by simpa using ‹¬s.busy = true›) ‹_›
    · cases h
  | readElem w i =>
    simp only [hostTurn] at h
    split at h
    · injection h with h
      exact h ▸ .read _ _
    · cases h

theorem takeTurn_move {u : Turn} {s t : State} (h : takeTurn u s = .next t) : Move s t := by
  cases u with
  | engine => exact engineTurn_move h
  | host a => exact hostTurn_move h
  | env a =>
    cases a with
    | receive bs => injection h with h; exact h ▸ .receive bs
    | txDone => injection h with h; exact h ▸ .txDone
    | pass ms => injection h with h; exact h ▸ .pass ms
  | boot a =>
    cases a with
    | construct c =>
      simp only [takeTurn, bootTurn] at h
      split at h
      · injection h with h
        exact h ▸ .construct c ‹_›
      · cases h
    | reset => injection h with h; exact h ▸ .reset

/-- A step takes a turn from the agenda and makes one move. -/
theorem step_move {s t : State} (h : step s = .next t) : ∃ ag, Move { s with agenda := ag } t := by
  obtain ⟨ha, he⟩ | ⟨u, rest, -, he⟩ := step_cases s
  · rw [he] at h
    exact ⟨s.agenda, engineTurn_move h⟩
  · rw [he] at h
    exact ⟨rest, takeTurn_move h⟩

/-- The cases of a transaction's next step (R172), for the decode rule `d`. -/
theorem advance_cases (d : List Byte → State → State) (s : State) :
    (∃ k, s.seq = .sending k ∧ advance d s = sendStep k s) ∨
    (∃ k, s.seq = .awaitingResponse k ∧ advance d s = recvStep k s) ∨
    (s.seq = .validating .check ∧ advance d s = checkStep s) ∨
    (∃ p, s.seq = .validating (.decode p) ∧ advance d s = d p s) ∨
    (s.busy = false ∧ advance d s = s) := by
  unfold advance
  cases h : s.seq with
  | sending k => exact .inl ⟨k, rfl, rfl⟩
  | awaitingResponse k => exact .inr (.inl ⟨k, rfl, rfl⟩)
  | validating k =>
    cases k with
    | check => exact .inr (.inr (.inl ⟨rfl, rfl⟩))
    | decode p => exact .inr (.inr (.inr (.inl ⟨p, rfl, rfl⟩)))
  | idle => exact .inr (.inr (.inr (.inr ⟨by rw [State.busy, h]; rfl, rfl⟩)))
  | completed => exact .inr (.inr (.inr (.inr ⟨by rw [State.busy, h]; rfl, rfl⟩)))
  | failed => exact .inr (.inr (.inr (.inr ⟨by rw [State.busy, h]; rfl, rfl⟩)))

/-- What a decode rule can do: complete a bit read, complete a register read, acknowledge, or raise `UnexpectedLength`
(R113 to R116). -/
theorem decodeRule_cases (i : Instr) (p : List Byte) (s : State) :
    (countPrefixed i.functionCode = true ∧
      ((p.length = ceilDiv s.txn.qty.toNat 8 ∧ (i.functionCode = 0x01#8 ∨ i.functionCode = 0x02#8) ∧
        decodeRule i p s = s.completeBits (unpackBits p s.txn.qty.toNat) s.txn.qty) ∨
       (p.length = 2 * s.txn.qty.toNat ∧ (i.functionCode = 0x03#8 ∨ i.functionCode = 0x04#8) ∧
        decodeRule i p s = s.completeRegs (unpackRegs p s.txn.qty.toNat) s.txn.qty) ∨
       decodeRule i p s = s.raise .unexpectedLength)) ∨
    (countPrefixed i.functionCode = false ∧ ∃ a, decodeRule i p s = s.completeAck a) := by
  have bits : ∀ fc : Byte, fc = 0x01#8 ∨ fc = 0x02#8 →
      ((p.length = ceilDiv s.txn.qty.toNat 8 ∧ (fc = 0x01#8 ∨ fc = 0x02#8) ∧
        decodeBits p s = s.completeBits (unpackBits p s.txn.qty.toNat) s.txn.qty) ∨
       (p.length = 2 * s.txn.qty.toNat ∧ (fc = 0x03#8 ∨ fc = 0x04#8) ∧
        decodeBits p s = s.completeRegs (unpackRegs p s.txn.qty.toNat) s.txn.qty) ∨
       decodeBits p s = s.raise .unexpectedLength) := by
    intro fc hf
    by_cases hp : p.length = ceilDiv s.txn.qty.toNat 8
    · exact .inl ⟨hp, hf, if_neg (not_not_intro hp)⟩
    · exact .inr (.inr (if_pos hp))
  have regs : ∀ fc : Byte, fc = 0x03#8 ∨ fc = 0x04#8 →
      ((p.length = ceilDiv s.txn.qty.toNat 8 ∧ (fc = 0x01#8 ∨ fc = 0x02#8) ∧
        decodeRegs p s = s.completeBits (unpackBits p s.txn.qty.toNat) s.txn.qty) ∨
       (p.length = 2 * s.txn.qty.toNat ∧ (fc = 0x03#8 ∨ fc = 0x04#8) ∧
        decodeRegs p s = s.completeRegs (unpackRegs p s.txn.qty.toNat) s.txn.qty) ∨
       decodeRegs p s = s.raise .unexpectedLength) := by
    intro fc hf
    by_cases hp : p.length = 2 * s.txn.qty.toNat
    · exact .inr (.inl ⟨hp, hf, if_neg (not_not_intro hp)⟩)
    · exact .inr (.inr (if_pos hp))
  cases i with
  | readCoils sl a q => exact .inl ⟨rfl, bits 0x01#8 (.inl rfl)⟩
  | readDiscreteInputs sl a q => exact .inl ⟨rfl, bits 0x02#8 (.inr rfl)⟩
  | readHoldingRegisters sl a q => exact .inl ⟨rfl, regs 0x03#8 (.inl rfl)⟩
  | readInputRegisters sl a q => exact .inl ⟨rfl, regs 0x04#8 (.inr rfl)⟩
  | writeSingleCoil sl a v => exact .inr ⟨rfl, _, rfl⟩
  | writeSingleRegister sl a v => exact .inr ⟨rfl, _, rfl⟩
  | writeMultipleCoils sl a vs => exact .inr ⟨rfl, _, rfl⟩
  | writeMultipleRegisters sl a vs => exact .inr ⟨rfl, _, rfl⟩

/-- The operand registers already hold the operation that GO fetches from them. -/
theorem callOperands_fetched {s : State} {i : Instr} (h : s.fetchCommand = some i) : callOperands i s.operands = s.operands := by
  unfold State.fetchCommand decodeCommand at h
  have e : ∀ n, s.operands.fc.toNat = n → s.operands.fc = BitVec.ofNat 8 n := fun n hn => by rw [← hn, BitVec.ofNat_toNat, BitVec.setWidth_eq]
  split at h <;> simp only [Option.some.injEq, reduceCtorEq] at h <;> subst h <;>
    simp [callOperands, ← e _ ‹_›, State.coils, State.regs, BitVec.ofNat_toNat]

/-- GO leaves an accepted operation where the engine goes on fetching it (R32, R171). -/
theorem fetchTxn_latch {s : State} {i : Instr} (h : s.fetchCommand = some i) (q : Seq) (e : ErrCode) (x : Byte) (a : Bool)
    (c : Word) : ({ s with rErr := e, rExc := x, rAck := a, rCount := c, txn := (callOperands i s.operands).latch, seq := q } :
      State).fetchTxn = some i := by
  rw [callOperands_fetched h]
  exact h

end Sys2Proof.Machine
end

