-- ==== Sys2Proof/Tests/Slice0.lean ====
section
/-! SUPPORT. The model's own tests. Expected values come from spec/95_test_vectors.md (its vector is named beside each) or
from the encoding of spec/30_encoding.md written out; and for every statement with hypotheses a witness that meets them. -/

namespace Sys2Proof.Tests

open Sys2Proof Sys2Proof.Machine

/-! ## Helpers -/

/-- A next state that satisfies `p`. -/
def answers (o : Host.Outcome State Fault Refusal) (p : State → Bool) : Bool :=
  match o with
  | .next t => p t
  | _ => false

/-- The call of `i` loaded, at rest after reset. -/
def loaded (i : Instr) : State := State.reset.loadCall i false

/-- The transaction of `i` running, at place `k`. -/
def running (i : Instr) (k : Seq) : State :=
  { loaded i with txn := (callOperands i Operands.reset).latch, seq := k }

/-- The transaction of `i` at the validator's step with `b` in RXBUF. -/
def checking (i : Instr) (b : List Byte) : State :=
  { running i (.validating .check) with rxbuf := Memory.writeList 0 b [], rxlen := b.length }

/-- The transaction of `i` at its decode step with payload `p`. -/
def decoding (i : Instr) (p : List Byte) : State := running i (.validating (.decode p))

/-- The state has just failed with `e` and `x`. -/
def failed (e : ErrCode) (x : Byte) (t : State) : Bool :=
  decide (t.seq = .failed ∧ t.rErr = e ∧ t.rExc = x ∧ t.rAck = false ∧ t.rCount = 0#16)

/-- The write call of V3.18 and V8.11. -/
def tenCoils : Instr := .writeMultipleCoils 0x11 0x0013 [true, false, true, true, false, false, true, true, true, false]

/-- The write call of V3.22 and V8.13. -/
def twoRegs : Instr := .writeMultipleRegisters 0x11 0x0001 [0x000A, 0x0102]

/-- The read call of X7 and V8.4. -/
def oneReg : Instr := .readHoldingRegisters 1 0x0101 1

/-- The good response of X7. -/
def goodReply : List Byte := [0x01, 0x03, 0x02, 0x00, 0x5F, 0xF8, 0x7C]

/-- V8.4 at the poll at `t = 20` that finds the whole response. -/
def polling : State :=
  { running oneReg (.awaitingResponse (.poll 20)) with
    crc := 0x36D4#16
    txbuf := Memory.writeList 0 [0x01, 0x03, 0x01, 0x01, 0x00, 0x01, 0xD4, 0x36] []
    txlen := 8
    now := 20
    rxq := goodReply
    events := [.flushRx, .de true, .write [0x01, 0x03, 0x01, 0x01, 0x00, 0x01, 0xD4, 0x36], .de false] }

/-! ## Well-formedness refuses each ill-formed term -/

theorem test_wf_bitQuantity : (Instr.readCoils 1 0 2001).illFormed 1968 = some .bitQuantity := by decide

theorem test_wf_registerQuantity : (Instr.readInputRegisters 1 0 0).illFormed 1968 = some .registerQuantity := by decide

theorem test_wf_coilValue : (Instr.writeSingleCoil 1 0 0x00FF).illFormed 1968 = some .coilValue := by decide

theorem test_wf_coilCount : (Instr.writeMultipleCoils 1 0 []).illFormed 1968 = some .coilCount := by decide

theorem test_wf_registerCount :
    (Instr.writeMultipleRegisters 1 0 (List.replicate 124 0)).illFormed 1968 = some .registerCount := by
  simp [Instr.illFormed]

/-! ## Every constructor's request, as the spec writes it -/

/-- V3.2. -/
theorem test_decode_readCoils :
    decode [0x11, 0x01, 0x00, 0x13, 0x00, 0x13, 0x8E, 0x92] = .ok (.readCoils 0x11 0x0013 19, []) := by decide

/-- V3.6. -/
theorem test_decode_readDiscreteInputs :
    decode [0x01, 0x02, 0x00, 0xC4, 0x00, 0x16, 0xB8, 0x39] = .ok (.readDiscreteInputs 1 0x00C4 22, []) := by decide

/-- V3.8, with a byte after the frame. -/
theorem test_decode_readHoldingRegisters :
    decode [0x01, 0x03, 0x01, 0x01, 0x00, 0x01, 0xD4, 0x36, 0x77] = .ok (oneReg, [0x77]) := by decide

/-- V3.13. -/
theorem test_decode_readInputRegisters :
    decode [0x01, 0x04, 0x00, 0x08, 0x00, 0x02, 0xF0, 0x09] = .ok (.readInputRegisters 1 8 2, []) := by decide

/-- V3.15. -/
theorem test_decode_writeSingleCoil :
    decode [0x01, 0x05, 0x00, 0x10, 0x00, 0x00, 0xCC, 0x0F] = .ok (.writeSingleCoil 1 0x0010 0x0000, []) := by decide

/-- V3.17. -/
theorem test_decode_writeSingleRegister :
    decode [0x01, 0x06, 0x00, 0x02, 0xFF, 0xFE, 0xE8, 0x7A] = .ok (.writeSingleRegister 1 2 0xFFFE, []) := by decide

/-- V3.18. -/
theorem test_decode_writeMultipleCoils :
    decode [0x11, 0x0F, 0x00, 0x13, 0x00, 0x0A, 0x02, 0xCD, 0x01, 0xBF, 0x0B] = .ok (tenCoils, []) := by decide

/-- V3.22. -/
theorem test_decode_writeMultipleRegisters :
    decode [0x11, 0x10, 0x00, 0x01, 0x00, 0x02, 0x04, 0x00, 0x0A, 0x01, 0x02, 0xC6, 0xF0] = .ok (twoRegs, []) := by decide

/-- V3.20, V3.23, V3.19: the encoder on the nine ones, one register and eight ones. -/
theorem test_encode_multiple :
    encode (.writeMultipleCoils 1 0 (List.replicate 9 true)) =
      [0x01, 0x0F, 0x00, 0x00, 0x00, 0x09, 0x02, 0xFF, 0x01, 0x65, 0x4C] ∧
    encode (.writeMultipleRegisters 1 0 [0xABCD]) =
      [0x01, 0x10, 0x00, 0x00, 0x00, 0x01, 0x02, 0xAB, 0xCD, 0x18, 0xF5] ∧
    encode (.writeMultipleCoils 1 0 (List.replicate 8 true)) =
      [0x01, 0x0F, 0x00, 0x00, 0x00, 0x08, 0x01, 0xFF, 0xBE, 0xD5] := by decide

/-- Refused by name: no frame, a code outside the eight (V3.37), a wrong byte count, a set padding bit, a bad checksum. -/
theorem test_decode_refusals :
    decode [0x01, 0x03, 0x01] = .error .truncated ∧
    decode [0x01, 0x83, 0x02, 0xC0, 0xF1] = .error (.unknownFunction 0x83) ∧
    decode [0x01, 0x0F, 0x00, 0x00, 0x00, 0x08, 0x02, 0xFF, 0x00, 0x00, 0x00] = .error .byteCountMismatch ∧
    decode [0x11, 0x0F, 0x00, 0x13, 0x00, 0x0A, 0x02, 0xCD, 0xFD, 0x00, 0x00] = .error .nonzeroPadding ∧
    decode [0x01, 0x03, 0x01, 0x01, 0x00, 0x01, 0xD4, 0x37] = .error .crcMismatch := by decide

/-- The table's words: the function code in the low byte, address and quantity above it, big-endian (R42, R60). -/
theorem test_decodeTableWord :
    decodeTableWord 8 0x01 = some (.readCoils 0 0 0) ∧
    decodeTableWord 40 0x1300130002 = some (.readDiscreteInputs 0 0x0013 0x0013) ∧
    decodeTableWord 40 0x0100010103 = some (.readHoldingRegisters 0 0x0101 1) ∧
    decodeTableWord 8 0x04 = some (.readInputRegisters 0 0 0) ∧
    decodeTableWord 40 0x00FF100005 = some (.writeSingleCoil 0 0x0010 0xFF00) ∧
    decodeTableWord 8 0x06 = some (.writeSingleRegister 0 0 0) ∧
    decodeTableWord 8 0x0F = some (.writeMultipleCoils 0 0 []) ∧
    decodeTableWord 8 0x10 = some (.writeMultipleRegisters 0 0 []) ∧
    decodeTableWord 8 0x07 = none := by decide

/-! ## CRC and codec -/

/-- V2.2 to V2.13. -/
theorem test_crc16 :
    crc16 [] = 0xFFFF#16 ∧ crc16 [0x00] = 0x40BF#16 ∧ crc16 [0x01] = 0x807E#16 ∧ crc16 [0xFF] = 0x00FF#16 ∧
    crc16 [0x31, 0x32, 0x33, 0x34, 0x35, 0x36, 0x37, 0x38, 0x39] = 0x4B37#16 ∧
    crc16 [0x01, 0x03, 0x01, 0x01, 0x00, 0x01] = 0x36D4#16 ∧ crc16 [0x01, 0x83, 0x02] = 0xF1C0#16 := by decide

/-- The landmarks of R92 and two rows of V2.1. -/
theorem test_crcTable :
    crcTableAt 0 = 0x0000#16 ∧ crcTableAt 1 = 0xC0C1#16 ∧ crcTableAt 2 = 0xC181#16 ∧ crcTableAt 128 = 0xA001#16 ∧
    crcTableAt 255 = 0x4040#16 ∧ crcTableAt 0x7D = 0x21C0#16 ∧ crcTableAt 0x31 = 0xD4C1#16 := by decide

/-- Section 3's helpers. -/
theorem test_packing :
    packBits [true, false, true, true, false, false, true, true, true, false] = [0xCD, 0x01] ∧
    packBits [false, false, false, false, false, false, false, true] = [0x80] ∧
    unpackBits [0xCD, 0xFD] 10 = [true, false, true, true, false, false, true, true, true, false] ∧
    unpackBits [0xAC] 8 = [false, false, true, true, false, true, false, true] := by decide

/-! ## One step of each operation -/

/-- V3.30: no PDU for quantity 2001, and X2: a PDU for quantity 2000. -/
theorem test_go_readCoils :
    answers (exec (.readCoils 1 0 2001) State.reset) (failed .invalidParameter 0) = true ∧
    answers (exec (.readCoils 1 0xFFFF 2000) State.reset)
      (fun t => decide (t.seq = .sending (.build [0x01, 0xFF, 0xFF, 0x07, 0xD0]))) = true := by decide

/-- V7.1, V7.3 and V7.5. -/
theorem test_decode_step_readCoils :
    answers (exec (.readCoils 1 0 19) (decoding (.readCoils 1 0 19) [0xCD, 0x6B, 0x05]))
      (fun t => decide (t.seq = .completed ∧ t.rCount = 19#16 ∧
        Memory.readList 8 11 t.rbits = [true, true, false, true, false, true, true, false, true, false, true])) = true ∧
    answers (exec (.readCoils 1 0 10) (decoding (.readCoils 1 0 10) [0xCD, 0xFD]))
      (fun t => decide (t.rCount = 10#16 ∧ Memory.readList 8 4 t.rbits = [true, false, false, false])) = true ∧
    answers (exec (.readCoils 1 0 8) (decoding (.readCoils 1 0 8) [0xCD, 0x00])) (failed .unexpectedLength 0) = true := by
  decide

/-- V3.31. -/
theorem test_go_readDiscreteInputs :
    answers (exec (.readDiscreteInputs 1 0 0) State.reset) (failed .invalidParameter 0) = true := by decide

/-- V7.6. -/
theorem test_decode_step_readDiscreteInputs :
    answers (exec (.readDiscreteInputs 1 0 8) (decoding (.readDiscreteInputs 1 0 8) [0xAC]))
      (fun t => decide (t.seq = .completed ∧ t.rCount = 8#16 ∧
        Memory.readList 0 8 t.rbits = [false, false, true, true, false, true, false, true])) = true := by decide

/-- V3.32, and X7: the PDU `03 01 01 00 01`. -/
theorem test_go_readHoldingRegisters :
    answers (exec (.readHoldingRegisters 1 0 126) State.reset) (failed .invalidParameter 0) = true ∧
    answers (exec oneReg State.reset) (fun t => decide (t.seq = .sending (.build [0x03, 0x01, 0x01, 0x00, 0x01]))) = true := by
  decide

/-- V7.7 and V7.12. -/
theorem test_decode_step_readHoldingRegisters :
    answers (exec oneReg (decoding oneReg [0x00, 0x5F]))
      (fun t => decide (t.seq = .completed ∧ t.rCount = 1#16 ∧ Memory.read t.rregs 0 = 0x005F#16)) = true ∧
    answers (exec (.readHoldingRegisters 1 0 2) (decoding (.readHoldingRegisters 1 0 2) [0x00, 0x5F]))
      (failed .unexpectedLength 0) = true := by decide

/-- V3.33. -/
theorem test_go_readInputRegisters :
    answers (exec (.readInputRegisters 1 0 126) State.reset) (failed .invalidParameter 0) = true := by decide

/-- V7.10 and V7.11: the host then reads element 1 as -32768 where `SIGNED` is 1, and as 32768 where it is 0. -/
theorem test_decode_step_readInputRegisters :
    answers (exec (.readInputRegisters 1 8 2) (decoding (.readInputRegisters 1 8 2) [0x00, 0x0A, 0x80, 0x00]))
      (fun t => decide ((t.hostReadElem .rregs 1).hostData = 32768 ∧
        ({ t with txn := { t.txn with signed := true } }.hostReadElem .rregs 1).hostData = -32768)) = true := by decide

/-- V3.34. -/
theorem test_go_writeSingleCoil :
    answers (exec (.writeSingleCoil 1 0x10 0xFF01) State.reset) (failed .invalidParameter 0) = true := by decide

/-- V7.14, V7.15, V7.16. -/
theorem test_decode_step_writeSingleCoil :
    answers (exec (.writeSingleCoil 1 0x10 0xFF00) (decoding (.writeSingleCoil 1 0x10 0xFF00) [0x00, 0x10, 0xFF, 0x00]))
      (fun t => t.rAck && decide (t.seq = .completed)) = true ∧
    answers (exec (.writeSingleCoil 1 0x10 0xFF00) (decoding (.writeSingleCoil 1 0x10 0xFF00) [0x00, 0x10, 0x00, 0x00]))
      (fun t => !t.rAck && decide (t.seq = .completed ∧ t.rErr = .none)) = true ∧
    answers (exec (.writeSingleCoil 1 0x10 0xFF00) (decoding (.writeSingleCoil 1 0x10 0xFF00) [0x00, 0x11, 0xFF, 0x00]))
      (fun t => !t.rAck && decide (t.seq = .completed)) = true := by decide

/-- V3.16: the build puts the ADU into TXBUF. -/
theorem test_build_writeSingleRegister :
    answers (exec (.writeSingleRegister 0x11 1 3)
        (running (.writeSingleRegister 0x11 1 3) (.sending (.build [0x06, 0x00, 0x01, 0x00, 0x03]))))
      (fun t => decide (t.txBytes = [0x11, 0x06, 0x00, 0x01, 0x00, 0x03, 0x9A, 0x9B] ∧ t.seq = .sending .drain)) = true := by
  decide

/-- V7.17, V7.18. -/
theorem test_decode_step_writeSingleRegister :
    answers (exec (.writeSingleRegister 0x11 1 3) (decoding (.writeSingleRegister 0x11 1 3) [0x00, 0x01, 0x00, 0x03]))
      (fun t => t.rAck) = true ∧
    answers (exec (.writeSingleRegister 0x11 1 3) (decoding (.writeSingleRegister 0x11 1 3) [0x00, 0x01, 0x00, 0x04]))
      (fun t => !t.rAck) = true := by decide

/-- V3.18 and V3.35. -/
theorem test_go_writeMultipleCoils :
    answers (exec tenCoils State.reset)
      (fun t => decide (t.seq = .sending (.build [0x0F, 0x00, 0x13, 0x00, 0x0A, 0x02, 0xCD, 0x01]))) = true ∧
    answers (exec (.writeMultipleCoils 1 0 []) State.reset) (failed .invalidParameter 0) = true := by decide

/-- V7.19, V7.20. -/
theorem test_decode_step_writeMultipleCoils :
    answers (exec tenCoils (decoding tenCoils [0x00, 0x13, 0x00, 0x0A])) (fun t => t.rAck) = true ∧
    answers (exec tenCoils (decoding tenCoils [0x00, 0x13, 0x00, 0x09])) (fun t => !t.rAck) = true := by decide

/-- V3.22 and V3.36's empty list. -/
theorem test_go_writeMultipleRegisters :
    answers (exec twoRegs State.reset)
      (fun t => decide (t.seq = .sending (.build [0x10, 0x00, 0x01, 0x00, 0x02, 0x04, 0x00, 0x0A, 0x01, 0x02]))) = true ∧
    answers (exec (.writeMultipleRegisters 1 0 []) State.reset) (failed .invalidParameter 0) = true := by decide

/-- V7.21, and another quantity. -/
theorem test_decode_step_writeMultipleRegisters :
    answers (exec twoRegs (decoding twoRegs [0x00, 0x01, 0x00, 0x02])) (fun t => t.rAck) = true ∧
    answers (exec twoRegs (decoding twoRegs [0x00, 0x01, 0x00, 0x03])) (fun t => !t.rAck) = true := by decide

/-- A table word placed by `withFetchWord` runs as the first step after reset; V3.37: an unknown code fails. -/
theorem test_withFetchWord :
    answers (step (State.reset.withFetchWord 40 0x0100010103))
      (fun t => decide (t.seq = .sending (.build [0x03, 0x01, 0x01, 0x00, 0x01]) ∧ t.agenda = [])) = true ∧
    answers (step (State.reset.withFetchWord 8 0x11)) (failed .invalidParameter 0) = true := by decide

/-! ## The completion predicate and the validator -/

/-- V4.2, V4.4, V4.5, V4.9, V4.10, V4.12, V4.13, V4.16, V4.17, V4.18, V4.20. -/
theorem test_complete :
    complete [0x01] = false ∧ complete [0x01, 0x83, 0x02, 0xC0] = false ∧ complete [0x01, 0x83, 0x02, 0xC0, 0xF1] = true ∧
    complete [0x01, 0x03, 0x02, 0x00, 0x5F, 0xF8] = false ∧ complete goodReply = true ∧
    complete [0x01, 0x03, 0x00, 0x00] = false ∧ complete [0x01, 0x03, 0x00, 0x00, 0x00] = true ∧
    complete [0x01, 0x05, 0x00, 0x10, 0xFF, 0x00, 0x8D] = false ∧
    complete [0x01, 0x05, 0x00, 0x10, 0xFF, 0x00, 0x8D, 0xFF] = true ∧
    complete [0x01, 0x2B, 0x00, 0x00, 0x00, 0x00, 0x00] = false ∧
    complete [0x01, 0x00, 0x00, 0x00, 0x00, 0x00, 0x00, 0x00] = true := by decide

/-- V6.1, V6.4, V6.5, V6.6, V6.8, V6.10, V6.9, V6.11, V6.12, V6.14: each clause of the validator's statement at a boundary. -/
theorem test_validator_errors :
    answers (exec oneReg (checking oneReg [])) (failed .noResponse 0) = true ∧
    answers (exec oneReg (checking oneReg [0x01, 0x03, 0x02])) (failed .unexpectedLength 0) = true ∧
    answers (exec oneReg (checking oneReg [0x01, 0x03, 0x40, 0x21])) (failed .unexpectedLength 0) = true ∧
    answers (exec oneReg (checking oneReg [0x01, 0x83, 0x41, 0x81])) (failed .unexpectedLength 0) = true ∧
    answers (exec oneReg (checking oneReg [0x01, 0x03, 0x02, 0x00, 0x5E, 0xF8, 0x7C])) (failed .crcMismatch 0) = true ∧
    answers (exec oneReg (checking oneReg [0x02, 0x03, 0x02, 0x00, 0x5F, 0x00, 0x00])) (failed .crcMismatch 0) = true ∧
    answers (exec oneReg (checking oneReg [0x02, 0x03, 0x02, 0x00, 0x5F, 0xBC, 0x7C])) (failed .addressMismatch 0) = true ∧
    answers (exec oneReg (checking oneReg [0x01, 0x83, 0x02, 0xC0, 0xF1])) (failed .slaveException 0x02) = true ∧
    answers (exec oneReg (checking oneReg [0x02, 0x83, 0x02, 0x30, 0xF1])) (failed .addressMismatch 0) = true ∧
    answers (exec oneReg (checking oneReg (goodReply ++ [0x00]))) (failed .unexpectedLength 0) = true := by decide

/-- V6.13, V6.17, V6.19, V6.20, V6.22, V6.23. -/
theorem test_validator_payloads :
    answers (exec oneReg (checking oneReg goodReply)) (fun t => decide (t.seq = .validating (.decode [0x00, 0x5F]))) = true ∧
    answers (exec oneReg (checking oneReg [0x01, 0x04, 0x02, 0x00, 0x5F, 0xF9, 0x08]))
      (fun t => decide (t.seq = .validating (.decode [0x00, 0x5F]))) = true ∧
    answers (exec oneReg (checking oneReg [0x01, 0x03, 0x00, 0x20, 0xF0]))
      (fun t => decide (t.seq = .validating (.decode []))) = true ∧
    answers (exec (.writeSingleCoil 1 0x10 0xFF00)
        (checking (.writeSingleCoil 1 0x10 0xFF00) [0x01, 0x05, 0x00, 0x10, 0xFF, 0x00, 0x8D, 0xFF]))
      (fun t => decide (t.seq = .validating (.decode [0x00, 0x10, 0xFF, 0x00]))) = true ∧
    answers (exec (.writeSingleCoil 1 0x10 0xFF00)
        (checking (.writeSingleCoil 1 0x10 0xFF00) [0x01, 0x05, 0x00, 0x10, 0xFF, 0x54, 0x8C]))
      (failed .unexpectedLength 0) = true ∧
    answers (exec (.writeSingleCoil 1 0x10 0xFF00)
        (checking (.writeSingleCoil 1 0x10 0xFF00) [0x01, 0x05, 0x00, 0x10, 0xFF, 0x00, 0x00, 0x3F, 0x65]))
      (failed .unexpectedLength 0) = true := by decide

/-- `T_CHAR_MS` is 2 at the default settings, and 9600 baud with parity still rounds up to 2 (section 5, R140). -/
theorem test_tCharMs : Cfg.default.tCharMs = 2 ∧ { Cfg.default with parity := .even }.tCharMs = 2 ∧
    { Cfg.default with tIdleMs := 1 }.tIdle = 2 := by decide

/-! ## Witnesses: a state and operands that meet the hypotheses of each statement -/

theorem witness_PackBitsLayout : 1 < ceilDiv 9 8 ∧ 7 < 8 ∧ (packBits (List.replicate 9 true)) = [0xFF, 0x01] := by decide

theorem witness_UnpackBitsInvertsPackBits : 8 ≤ 8 * [0xAC#8].length ∧ 7 < 8 ∧
    (unpackBits [0xAC#8] 8).getD 7 false = true := by decide

theorem witness_PackRegsReadsBack : 1 < [0x000A#16, 0x0102#16].length ∧
    packRegs [0x000A#16, 0x0102#16] = [0x00, 0x0A, 0x01, 0x02] := by decide

theorem witness_RequestsDecodeBack :
    (Instr.readCoils 0xFF 0xFFFF 2000).wf wmcCeiling = true ∧ (Instr.readDiscreteInputs 0 0 1).wf wmcCeiling = true ∧
    (Instr.readHoldingRegisters 1 0 125).wf wmcCeiling = true ∧ (Instr.readInputRegisters 1 0 125).wf wmcCeiling = true ∧
    (Instr.writeSingleCoil 1 0 0xFF00).wf wmcCeiling = true ∧ (Instr.writeSingleRegister 1 0 0xFFFF).wf wmcCeiling = true ∧
    (Instr.writeMultipleCoils 1 0 (List.replicate 9 true)).wf wmcCeiling = true ∧
    (Instr.writeMultipleRegisters 1 0 (List.replicate 9 0)).wf wmcCeiling = true := by decide

/-- The longest lists. -/
theorem witness_longest_lists : (Instr.writeMultipleCoils 1 0 (List.replicate 1968 true)).wf wmcCeiling = true ∧
    (Instr.writeMultipleRegisters 1 0 (List.replicate 123 0)).wf wmcCeiling = true :=
  ⟨(wf_writeMultipleCoils _ _ _ _).2 (by rw [List.length_replicate]; decide),
    (wf_writeMultipleRegisters _ _ _ _).2 (by rw [List.length_replicate]; decide)⟩

theorem witness_DecodedBytesAreTheEncoding : decode [0x01, 0x05, 0x00, 0x10, 0xFF, 0x01, 0x4C, 0x3F] =
    .ok (.writeSingleCoil 1 0x10 0xFF01, []) := by decide

/-- For the four GO statements, `GoAcceptsExactlyTheWellFormed`, and the host writes at rest. -/
theorem witness_atRest : State.reset.busy = false ∧ (Instr.readCoils 1 0 2000).wf State.reset.cfg.wmcQtyMax = true ∧
    (Instr.readCoils 1 0 2001).wf State.reset.cfg.wmcQtyMax = false := by decide

theorem witness_GoWithUnknownFunctionCode :
    let s : State := { State.reset.loadUnknown 0x11 with agenda := [.host (.writeReg 8 1)] }
    s.busy = false ∧ knownFunction s.operands.fc = false ∧ (1#16).getLsbD 0 = true ∧
    s.agenda = .host (.writeReg 8 1#16) :: [] := by
  decide

theorem witness_HostWritesWhileBusyAreIgnored :
    let s : State := { polling with agenda := [.host (.writeReg 8 1)] }
    s.busy = true ∧ (5 ≤ 5 ∨ 8 ≤ 5 ∧ 5 ≤ 13) ∧ (13 ≤ 5 ∨ 8 ≤ 13 ∧ 13 ≤ 13) ∧ 1967 < s.cfg.wmcQtyMax ∧ 122 < 123 ∧
    1999 < 2000 ∧ 124 < 125 ∧ s.agenda = .host (.writeReg 8 1) :: [] := by decide

/-- A fetched operation with nothing missing, a running one, and an engine at rest. -/
theorem witness_StepRunsTheFetchedOperation :
    let s : State := { loaded oneReg with agenda := [.host (.writeReg 8 1)] }
    s.busy = false ∧ ¬s.operandMissing ∧ s.fetchCommand = some oneReg ∧
    polling.busy = true ∧ polling.fetchTxn = some oneReg ∧ polling.agenda = [] ∧
    State.reset.busy = false ∧ State.reset.agenda = [] := by
  refine ⟨rfl, ?_, by decide, by decide, by decide, by decide, rfl, rfl⟩
  unfold State.operandMissing
  simp [loaded, oneReg, State.loadCall, callMarks, callOperands]

/-- Each operand that can be missing: every one right after reset; the last element of a list; `SIGNED` of a register read. -/
theorem witness_operandMissing :
    State.reset.operandMissing ∧
    ({ loaded twoRegs with written := { (loaded twoRegs).written with wreg := [(0, true)] } } : State).operandMissing ∧
    ({ loaded oneReg with written := { (loaded oneReg).written with signed := false } } : State).operandMissing :=
  ⟨.inl rfl, .inr (.inr (.inr (.inr (.inr (.inr ⟨rfl, 1, by decide, by decide⟩))))),
    .inr (.inr (.inr (.inr (.inl ⟨.inl rfl, rfl⟩))))⟩

/-- R212, U1: a GO whose operation reads an operand or an element never written since reset runs on whatever it holds: `VALUE` of
a single write, the second of two registers. -/
theorem test_go_unwritten :
    (∃ t, step { loaded (.writeSingleRegister 1 2 0) with
                   written := { (loaded (.writeSingleRegister 1 2 0)).written with value := false },
                   agenda := [.host (.writeReg 8 1)] } = .next t ∧
      t.seq = .sending (.build [0x06, 0x00, 0x02, hi8 (Config.freeContent 0 (.operand 4)),
        lo8 (Config.freeContent 0 (.operand 4))])) ∧
    ({ loaded twoRegs with written := { (loaded twoRegs).written with wreg := [(0, true)] } } : State).fetchCommand =
      some (.writeMultipleRegisters 0x11 0x0001 [0x000A, Config.freeContent 0 (.reg 1)]) :=
  ⟨⟨_, rfl, rfl⟩, rfl⟩

/-- R15, U13: at rest a write to CTRL with bit 0 clear, or to STATUS, does nothing. -/
theorem test_ctrl_zero :
    step { loaded oneReg with agenda := [.host (.writeReg 8 0xFFFE)] } = .next (loaded oneReg) ∧
    step { loaded oneReg with agenda := [.host (.writeReg 9 1)] } = .next (loaded oneReg) := ⟨rfl, rfl⟩

/-- R75: `signed=1` sets `x[5]`, and a call without the argument sets it back to 0; a write leaves it alone. -/
theorem test_call_signed :
    (State.reset.loadCall oneReg true).operands.signed = true ∧
    ((State.reset.loadCall oneReg true).loadCall oneReg false).operands.signed = false ∧
    ((State.reset.loadCall oneReg true).loadCall twoRegs false).operands.signed = true ∧
    callWrites oneReg false =
      [.writeReg 1 1, .writeReg 2 0x0101, .writeReg 3 1, .writeReg 5 0, .writeReg 0 3] := by decide

theorem witness_LoadedCallIsFetched : Memory.wf State.reset.wcoil = true ∧ Memory.wf State.reset.wreg = true ∧
    Memory.wf State.reset.written.wcoil = true ∧ Memory.wf State.reset.written.wreg = true ∧
    tenCoils.wf wmcCeiling = true ∧ (State.reset.loadCall tenCoils false).fetchCommand = some tenCoils ∧
    State.reset.busy = false ∧ State.reset.cfg.valid = true ∧ tenCoils.wf State.reset.cfg.wmcQtyMax = true := by decide

theorem witness_TxnKeepsTheOperation : (loaded twoRegs).busy = false ∧ (loaded twoRegs).fetchCommand = some twoRegs ∧
    answers (exec twoRegs (loaded twoRegs)) (fun t => t.busy) = true := by decide

theorem witness_BuildWritesTheAdu :
    let s := running oneReg (.sending (.build [0x03, 0x01, 0x01, 0x00, 0x01]))
    s.seq = .sending (.build [0x03, 0x01, 0x01, 0x00, 0x01]) ∧ s.txn.fc = oneReg.functionCode ∧ Memory.wf s.txbuf = true := by
  decide

/-- V9: three stale bytes are gone after the drain. -/
theorem witness_DrainDiscardsTheQueue :
    let s : State := { running oneReg (.sending .drain) with rxq := [0xAA, 0xBB, 0xCC] }
    s.seq = .sending .drain ∧ s.txn.fc = oneReg.functionCode ∧ answers (exec oneReg s) (fun t => t.rxq.isEmpty) = true := by
  decide

theorem witness_TransmitSteps :
    (running oneReg (.sending .awaitDone)).txn.fc = oneReg.functionCode ∧
    (running oneReg (.sending .awaitDone)).cfg.dePresent = true ∧ (running oneReg (.sending .awaitDone)).txDone = true ∧
    ({ running oneReg (.sending .write) with cfg := { Cfg.default with dePresent := false } } : State).cfg.dePresent = false := by
  decide

theorem witness_TxDoneWaitHasNoTimeout :
    let s : State := { running oneReg (.sending .awaitDone) with
                       txDone := false, de := true, events := [.flushRx, .de true, .write []] }
    s.seq = .sending .awaitDone ∧ s.txDone = false ∧ s.agenda = [] ∧ LineInv s := by
  refine ⟨rfl, rfl, rfl, ⟨⟨.sent, by decide, by decide⟩, by decide, by decide⟩⟩

/-- The wait with turns of every agent but `tx_done` and reset pending. -/
theorem witness_TxDoneWait_turns :
    let s : State := { running oneReg (.sending .awaitDone) with
                       txDone := false, agenda := [.host (.writeReg 8 1), .env (.pass 5000), .env (.receive [0]), .engine] }
    s.seq = .sending .awaitDone ∧ s.txDone = false ∧ (∀ u, u ∈ s.agenda → u.leavesWait = true) ∧
    answers (step s) (fun t => decide (t.seq = .sending .awaitDone)) = true :=
  ⟨rfl, rfl, by decide, by decide⟩

theorem witness_EnterReceiveLoop :
    (running oneReg (.awaitingResponse .enter)).seq = .awaitingResponse .enter ∧
    (running oneReg (.awaitingResponse .enter)).txn.fc = oneReg.functionCode := by decide

/-- The four clauses: the reading of NOW, a poll with bytes, a poll without, the wait. -/
theorem witness_ReceiveLoopIteration :
    polling.txn.fc = oneReg.functionCode ∧ polling.seq = .awaitingResponse (.poll 20) ∧ polling.rxq ≠ [] ∧
    Memory.wf polling.rxbuf = true ∧ ({ polling with rxq := [] } : State).rxq = [] ∧
    (running oneReg (.awaitingResponse .readNow)).seq = .awaitingResponse .readNow ∧
    (running oneReg (.awaitingResponse (.pause 40))).seq = .awaitingResponse (.pause 40) := by decide

theorem witness_CharacterTimeRoundsUp : 0 < Cfg.default.baud ∧ 1000 * 11 ≤ 2 * Cfg.default.baud := by decide

/-- One frame of each of the four forms, with code `0x10` and a byte count at the smallest. -/
theorem witness_ResponseFramesCompleteExactlyAtTheirEnd :
    1 ≤ [0xAC#8].length ∧ [0xAC#8].length ≤ 250 ∧ rspBits 1 0x02 [0xAC] =
      [0x01, 0x02, 0x01, 0xAC, 0xA1, 0xF5] ∧
    rspRegs 1 0x03 [0x005F] = goodReply ∧ rspEcho 0x11 0x10 1 2 = [0x11, 0x10, 0x00, 0x01, 0x00, 0x02, 0x12, 0x98] ∧
    knownFunction 0x03 = true ∧ rspExc 1 0x03 0x02 = [0x01, 0x83, 0x02, 0xC0, 0xF1] := by decide

theorem witness_ValidatorChecksInOrder :
    (checking oneReg goodReply).seq = .validating .check ∧ (checking oneReg goodReply).txn.fc = oneReg.functionCode ∧
    (checking oneReg goodReply).rxBytes = goodReply ∧ (checking oneReg goodReply).txn.counted = true ∧
    (checking twoRegs goodReply).txn.counted = false := by decide

/-- V6.13, V6.14, V6.15. -/
theorem witness_StrayZeroBytesAreRejectedOnLength :
    validate goodReply polling.txn = .ok [0x00, 0x5F] ∧
    validate (goodReply ++ [0x00, 0x00]) polling.txn = .error .unexpectedLength := by decide

/-- V6.17, and the write context. -/
theorem witness_ForeignFunctionCodeIsAccepted :
    (0x04#8).toNat ≠ polling.txn.fc.toNat + 0x80 ∧ polling.txn.counted = true ∧ [0x00#8, 0x5F#8].length < 256 ∧
    frame ([polling.txn.slave, 0x04#8, BitVec.ofNat 8 2] ++ [0x00#8, 0x5F#8]) = [0x01, 0x04, 0x02, 0x00, 0x5F, 0xF9, 0x08] ∧
    (running twoRegs .idle).txn.counted = false ∧ (0x05#8).toNat ≠ (running twoRegs .idle).txn.fc.toNat + 0x80 := by decide

theorem witness_SilenceEndsInNoResponse :
    let s : State := running oneReg (.awaitingResponse (.poll 2000))
    s.seq = .awaitingResponse (.poll 2000) ∧ s.fetchTxn = some oneReg ∧ s.agenda = [] ∧ s.rxq = [] ∧ s.rxlen = 0 ∧
    s.tStart + s.cfg.tRespMs ≤ 2000 := by decide

theorem witness_BitResponsesDecode :
    let s := decoding (.readCoils 1 0 10) [0xCD, 0xFD]
    s.seq = .validating (.decode [0xCD, 0xFD]) ∧ s.txn.fc = (Instr.readCoils 1 0 10).functionCode ∧
    Memory.wf s.rbits = true ∧ [0xCD#8, 0xFD#8].length = ceilDiv s.txn.qty.toNat 8 ∧
    [0xCD#8].length ≠ ceilDiv s.txn.qty.toNat 8 := by decide

theorem witness_RegisterResponsesDecode :
    let s := decoding oneReg [0x00, 0x5F]
    s.seq = .validating (.decode [0x00, 0x5F]) ∧ s.txn.fc = oneReg.functionCode ∧ Memory.wf s.rregs = true ∧
    [0x00#8, 0x5F#8].length = 2 * s.txn.qty.toNat ∧ [0x00#8].length ≠ 2 * s.txn.qty.toNat := by decide

theorem witness_SingleWriteEchoesDecode :
    let i : Instr := .writeSingleRegister 0x11 1 3
    (decoding i [0x00, 0x01, 0x00, 0x03]).seq = .validating (.decode [0x00, 0x01, 0x00, 0x03]) ∧
    (decoding i [0x00, 0x01, 0x00, 0x03]).txn.fc = i.functionCode ∧ [0x00#8, 0x01#8, 0x00#8, 0x03#8].length = 4 := by decide

theorem witness_MultipleWriteEchoesDecode :
    (decoding tenCoils [0x00, 0x13, 0x00, 0x09]).seq = .validating (.decode [0x00, 0x13, 0x00, 0x09]) ∧
    (decoding tenCoils [0x00, 0x13, 0x00, 0x09]).txn.fc = tenCoils.functionCode ∧
    [0x00#8, 0x13#8, 0x00#8, 0x09#8].length = 4 := by decide

theorem reset_buffers : BufferInv State.reset := by constructor <;> decide

/-- For the five transaction statements and `StaleBytesMakeNoDifference`, at the bounds of each operand. -/
theorem witness_Transactions :
    State.reset.busy = false ∧ State.reset.cfg.valid = true ∧ BufferInv State.reset ∧
    1 ≤ [true].length ∧ (List.replicate 2000 true).length ≤ 2000 ∧ (List.replicate 125 0#16).length ≤ 125 ∧
    (0xFF00#16 = 0x0000#16 ∨ 0xFF00#16 = 0xFF00#16) ∧ (List.replicate 1968 true).length ≤ State.reset.cfg.wmcQtyMax ∧
    twoRegs.wf State.reset.cfg.wmcQtyMax = true ∧ State.reset.cfg.wmcQtyMax ≤ wmcCeiling ∧
    Memory.wf State.reset.written.wcoil = true ∧ Memory.wf State.reset.written.wreg = true :=
  ⟨rfl, rfl, reset_buffers, by decide, by rw [List.length_replicate], by rw [List.length_replicate], .inr rfl,
    by rw [List.length_replicate]; decide, by decide, by decide, by decide, by decide⟩

/-- V7.3: ten bits in two packed bytes whose six padding bits are not 0. -/
theorem witness_BitReadTransaction :
    let bits := [true, false, true, true, false, false, true, true, true, false]
    [0xCD#8, 0xFD#8].length = ceilDiv bits.length 8 ∧
    (∀ j : Fin 10, (byteAt [0xCD#8, 0xFD#8] (j / 8)).getLsbD (j % 8) = bits.getD j false) ∧
    packBits bits ≠ [0xCD#8, 0xFD#8] := by decide

/-- Both ways into `Failed`. -/
theorem witness_FailedIsEnteredOnlyByRaise :
    answers (step { loaded (.readCoils 1 0 0) with agenda := [.host (.writeReg 8 1)] }) (failed .invalidParameter 0) = true ∧
    answers (step (checking oneReg [])) (failed .noResponse 0) = true ∧
    (loaded (.readCoils 1 0 0)).seq ≠ .failed ∧ (checking oneReg []).seq ≠ .failed := by decide

theorem polling_seq : polling.seq = .awaitingResponse (.poll 20) := rfl

/-- For `StateTakesOnlyItsTransitions` and every `StepKeeps…` statement: a state in the receive loop that meets all the
invariants together and answers a next state. -/
theorem witness_invariants :
    TxnInv polling ∧ BufferInv polling ∧ LengthInv polling ∧ ResultInv polling ∧ ClockInv polling ∧ LineInv polling ∧
    ReceivedInv polling ∧ ∃ t, step polling = .next t := by
  refine ⟨⟨by decide, fun _ => ⟨oneReg, by decide, by decide⟩, fun _ => by decide⟩, by constructor <;> decide,
    ⟨by decide, fun p h => ?_, by decide, fun _ => by decide⟩, ⟨by decide, by decide, by decide, by decide, by decide, by decide⟩,
    ⟨fun _ => by decide, fun t h => ?_⟩, ⟨⟨.listening, by decide, by decide⟩, by decide, by decide⟩,
    ⟨fun k h => ?_, fun h => ?_, fun _ => by decide⟩, ⟨_, rfl⟩⟩
  · exact absurd (polling_seq.symm.trans h) (by simp)
  · have : (20 : Nat) = t := by simpa using polling_seq.symm.trans h
    subst this
    decide
  · exact absurd (polling_seq.symm.trans h) (by simp)
  · exact absurd (polling_seq.symm.trans h) (by simp)

theorem witness_ResultWindowsAreWrittenOnlyByReads :
    answers (exec oneReg (decoding oneReg [0x00, 0x5F])) (fun t => decide (t.rregs ≠ (decoding oneReg [0x00, 0x5F]).rregs)) =
      true ∧
    answers (exec (.readCoils 1 0 8) (decoding (.readCoils 1 0 8) [0x01]))
      (fun t => decide (t.rbits ≠ (decoding (.readCoils 1 0 8) [0x01]).rbits)) = true := by decide

/-- The agenda of each host statement can be had, `DONE` is reachable, and the places that do not exist. -/
theorem witness_host :
    ({ State.reset with agenda := [.host (.readReg 9)] } : State).agenda = .host (.readReg 9) :: [] ∧
    ({ State.reset with seq := .completed } : State).done = true ∧ 0 < State.reset.cfg.wmcQtyMax ∧
    ¬(6 ≤ 5 ∨ 8 ≤ 6 ∧ 6 ≤ 13) ∧ ¬(14 ≤ 5 ∨ 8 ≤ 14 ∧ 14 ≤ 13) ∧ State.reset.windowCap .wreg ≤ 123 ∧
    (0 < Cfg.default.baud ∧ 1 ≤ Cfg.default.tPollMs ∧ 1 ≤ Cfg.default.tRespMs ∧ 260 ≤ Cfg.default.rxCap ∧
      1 ≤ Cfg.default.wmcQtyMax ∧ Cfg.default.wmcQtyMax ≤ 1968) ∧ ¬(260 ≤ ({ Cfg.default with rxCap := 259 } : Cfg).rxCap) := by
  decide

/-- For the reads of `HostReadsResultRegisters` in `Idle`, and of the last element of each result window. -/
theorem witness_HostReadsResultRegisters :
    State.reset.seq = .idle ∧
    (let s : State := { running (.readCoils 1 0 2000) .completed with rCount := 2000#16 }
     s.seq = .completed ∧ 1999 < s.rCount.toNat ∧ s.txn.fc = 0x01#8) ∧
    (let s : State := { running (.readInputRegisters 1 0 125) .completed with rCount := 125#16 }
     s.seq = .completed ∧ 124 < s.rCount.toNat ∧ s.txn.fc = 0x04#8) := by decide

/-- For the writes of `HostWritesOperandRegisters` that change nothing. -/
theorem witness_HostWritesOperandRegisters : State.reset.busy = false ∧ (0xFFFE#16).getLsbD 0 = false ∧ 9 ≤ 9 ∧ 13 ≤ 13 := by
  decide

end Sys2Proof.Tests
end

section
/-! PROOFS. The encode rules as one equation: an operation is accepted exactly when it is well-formed, with the PDU of its own
request frame, and every rejection is `InvalidParameter` (R100, R118, R191). -/

namespace Sys2Proof.Machine

open Sys2Proof

/-- A rule that rejects on `b` accepts on its opposite `w`. -/
theorem reject_iff {w b : Prop} [Decidable w] [Decidable b] (h : w ↔ ¬b) (p : List Byte) :
    (if b then Except.error Err.invalidParameter else .ok p) = if w then .ok p else .error .invalidParameter := by
  simp only [h, ite_not]

/-- The encode rule of every operation: the PDU of its request frame, or `InvalidParameter`. -/
theorem encodeRule_eq (c : Cfg) (i : Instr) :
    encodeRule c i = if i.wf c.wmcQtyMax = true then .ok (encodeBody i).tail else .error .invalidParameter := by
  cases i with
  | readCoils sl a q => exact reject_iff (by rw [wf_readCoils]; omega) _
  | readDiscreteInputs sl a q => exact reject_iff (by rw [wf_readDiscreteInputs]; omega) _
  | readHoldingRegisters sl a q => exact reject_iff (by rw [wf_readHoldingRegisters]; omega) _
  | readInputRegisters sl a q => exact reject_iff (by rw [wf_readInputRegisters]; omega) _
  | writeSingleCoil sl a v => exact reject_iff (by rw [wf_writeSingleCoil]; tauto) _
  | writeSingleRegister sl a v => rfl
  | writeMultipleCoils sl a vs => exact reject_iff (by rw [wf_writeMultipleCoils]; omega) _
  | writeMultipleRegisters sl a vs => exact reject_iff (by rw [wf_writeMultipleRegisters]; omega) _

theorem encodeRule_of_wf {c : Cfg} {i : Instr} (h : i.wf c.wmcQtyMax = true) :
    encodeRule c i = .ok (encodeBody i).tail := by rw [encodeRule_eq, if_pos h]

theorem encodeRule_ok {c : Cfg} {i : Instr} {pdu : List Byte} (h : encodeRule c i = .ok pdu) :
    i.wf c.wmcQtyMax = true ∧ pdu = (encodeBody i).tail := by
  rw [encodeRule_eq] at h
  split at h
  · exact ⟨‹_›, by injection h with h; exact h.symm⟩
  · cases h

theorem encodeRule_error {c : Cfg} {i : Instr} {e : Err} (h : encodeRule c i = .error e) : e = .invalidParameter := by
  rw [encodeRule_eq] at h
  split at h
  · cases h
  · injection h with h; exact h.symm

/-- A larger `WMC_QTY_MAX` accepts more. -/
theorem wf_mono {m m' : Nat} (hm : m ≤ m') {i : Instr} (h : i.wf m = true) : i.wf m' = true := by
  cases i with
  | writeMultipleCoils sl a vs =>
    rw [wf_writeMultipleCoils] at h ⊢
    exact ⟨h.1, h.2.trans hm⟩
  | _ => exact h

/-- The request of every well-formed operation has 8 to 255 bytes (R28, R77). -/
theorem encodedLength (i : Instr) : Laws.EncodedLength.Statement i := by
  cases i with
  | readCoils sl a q => exact Laws.EncodedLength.readCoils sl a q
  | readDiscreteInputs sl a q => exact Laws.EncodedLength.readDiscreteInputs sl a q
  | readHoldingRegisters sl a q => exact Laws.EncodedLength.readHoldingRegisters sl a q
  | readInputRegisters sl a q => exact Laws.EncodedLength.readInputRegisters sl a q
  | writeSingleCoil sl a v => exact Laws.EncodedLength.writeSingleCoil sl a v
  | writeSingleRegister sl a v => exact Laws.EncodedLength.writeSingleRegister sl a v
  | writeMultipleCoils sl a vs => exact Laws.EncodedLength.writeMultipleCoils sl a vs
  | writeMultipleRegisters sl a vs => exact Laws.EncodedLength.writeMultipleRegisters sl a vs

/-- The bounds of R6 and R212, field by field. -/
theorem cfg_valid_iff (c : Cfg) : c.valid = true ↔
    0 < c.baud ∧ 1 ≤ c.tPollMs ∧ 1 ≤ c.tRespMs ∧ 260 ≤ c.rxCap ∧ 1 ≤ c.wmcQtyMax ∧ c.wmcQtyMax ≤ 1968 := by
  simp only [Cfg.valid, Bool.and_eq_true, decide_eq_true_eq, and_assoc]
  rfl

/-- A PDU that GO accepts has 5 to 252 bytes (R77, R107, R108). -/
theorem encodeRule_ok_length {c : Cfg} {i : Instr} {pdu : List Byte} (hc : c.valid = true)
    (h : encodeRule c i = .ok pdu) : 5 ≤ pdu.length ∧ pdu.length ≤ 252 := by
  obtain ⟨hwf, rfl⟩ := encodeRule_ok h
  obtain ⟨-, -, -, -, -, hmax⟩ := (cfg_valid_iff c).1 hc
  have hl := encodedLength i (wf_mono hmax hwf)
  rw [encode, frame_length] at hl
  rw [List.length_tail]
  omega

end Sys2Proof.Machine
end

section
/-! PROOFS. What a step of a running transaction can do, as one inductive relation over its outcomes (R131 to R137, R172). -/

namespace Sys2Proof.Machine

open Sys2Proof

/-- The outcomes of a step of operation `i`'s running transaction, each with the place it starts from. -/
inductive EngineMove (i : Instr) (s : State) : State → Prop
  /-- The engine waits for `SER.tx_done` or for the end of a pause (R135, R137), or it is at rest. -/
  | stay : EngineMove i s s
  | build (pdu : List Byte) (hq : s.seq = .sending (.build pdu)) : EngineMove i s (buildAdu pdu s)
  | drain (hq : s.seq = .sending .drain) (hd : s.cfg.dePresent = true) : EngineMove i s (s.serFlush.goto (.sending .assertDe))
  /-- Without a direction output (R134). -/
  | drainNoDe (hq : s.seq = .sending .drain) (hd : s.cfg.dePresent = false) : EngineMove i s (s.serFlush.goto (.sending .write))
  | assertDe (hq : s.seq = .sending .assertDe) : EngineMove i s ((s.driveDe true).goto (.sending .write))
  | write (hq : s.seq = .sending .write) (hd : s.cfg.dePresent = true) :
      EngineMove i s ((s.serWrite s.txBytes).goto (.sending .awaitDone))
  /-- Without a direction output (R134). -/
  | writeNoDe (hq : s.seq = .sending .write) (hd : s.cfg.dePresent = false) :
      EngineMove i s ((s.serWrite s.txBytes).goto (.awaitingResponse .enter))
  | doneSeen (hq : s.seq = .sending .awaitDone) (hd : s.txDone = true) : EngineMove i s (s.goto (.sending .releaseDe))
  | releaseDe (hq : s.seq = .sending .releaseDe) : EngineMove i s ((s.driveDe false).goto (.awaitingResponse .enter))
  | enter (hq : s.seq = .awaitingResponse .enter) : EngineMove i s (enterLoop s)
  | readNow (hq : s.seq = .awaitingResponse .readNow) : EngineMove i s (s.goto (.awaitingResponse (.poll s.now)))
  /-- A poll that found nothing ends the loop: idle or overall bound (R137, R138). -/
  | silentEnd (t : Nat) (hq : s.seq = .awaitingResponse (.poll t)) (he : s.rxq = []) : EngineMove i s (s.goto (.validating .check))
  /-- A poll that found nothing goes on to the wait. -/
  | silentWait (t : Nat) (hq : s.seq = .awaitingResponse (.poll t)) (he : s.rxq = []) :
      EngineMove i s (s.goto (.awaitingResponse (.pause (s.now + s.cfg.tPollMs))))
  /-- A poll that found bytes ends the loop: complete, full or overall bound (R137, R138). -/
  | readEnd (t : Nat) (hq : s.seq = .awaitingResponse (.poll t)) (hne : s.rxq ≠ []) :
      EngineMove i s ((s.pollAppend t).goto (.validating .check))
  /-- A poll that found bytes, none of them the last and room left, goes on to the wait. -/
  | readWait (t : Nat) (hq : s.seq = .awaitingResponse (.poll t)) (hne : s.rxq ≠ [])
      (hl : (s.pollAppend t).rxlen ≠ s.cfg.rxCap) :
      EngineMove i s ((s.pollAppend t).goto (.awaitingResponse (.pause (s.now + s.cfg.tPollMs))))
  | wake (w : Nat) (hq : s.seq = .awaitingResponse (.pause w)) (hw : w ≤ s.now) :
      EngineMove i s (s.goto (.awaitingResponse .readNow))
  | reject (e : Err) (hq : s.seq = .validating .check) (hv : validate s.rxBytes s.txn = .error e) :
      EngineMove i s ((s.checkCrc s.rxBytes).raise e)
  | accept (p : List Byte) (hq : s.seq = .validating .check) (hv : validate s.rxBytes s.txn = .ok p) :
      EngineMove i s ((s.checkCrc s.rxBytes).goto (.validating (.decode p)))
  | bits (p : List Byte) (hq : s.seq = .validating (.decode p)) (hf : i.functionCode = 0x01#8 ∨ i.functionCode = 0x02#8)
      (hp : p.length = ceilDiv s.txn.qty.toNat 8) :
      EngineMove i s (s.completeBits (unpackBits p s.txn.qty.toNat) s.txn.qty)
  | regs (p : List Byte) (hq : s.seq = .validating (.decode p)) (hf : i.functionCode = 0x03#8 ∨ i.functionCode = 0x04#8)
      (hp : p.length = 2 * s.txn.qty.toNat) :
      EngineMove i s (s.completeRegs (unpackRegs p s.txn.qty.toNat) s.txn.qty)
  | badLength (p : List Byte) (hq : s.seq = .validating (.decode p)) (hf : countPrefixed i.functionCode = true) :
      EngineMove i s (s.raise .unexpectedLength)
  | ack (p : List Byte) (b : Bool) (hq : s.seq = .validating (.decode p)) (hf : countPrefixed i.functionCode = false) :
      EngineMove i s (s.completeAck b)

theorem sendStep_move (i : Instr) {k : SendStep} {s : State} (hq : s.seq = .sending k) : EngineMove i s (sendStep k s) := by
  cases k with
  | build pdu => exact .build pdu hq
  | drain =>
    cases hd : s.cfg.dePresent <;> simp only [sendStep, hd, if_true, Bool.false_eq_true, if_false]
    · exact .drainNoDe hq hd
    · exact .drain hq hd
  | assertDe => exact .assertDe hq
  | write =>
    cases hd : s.cfg.dePresent <;> simp only [sendStep, hd, if_true, Bool.false_eq_true, if_false]
    · exact .writeNoDe hq hd
    · exact .write hq hd
  | awaitDone =>
    simp only [sendStep]
    split
    · exact .doneSeen hq ‹_›
    · exact .stay
  | releaseDe => exact .releaseDe hq

theorem pollStep_move (i : Instr) {t : Nat} {s : State} (hq : s.seq = .awaitingResponse (.poll t)) :
    EngineMove i s (pollStep t s) := by
  obtain ⟨he, -, -, h⟩ | ⟨he, -, h⟩ | ⟨hne, -, h⟩ | ⟨hne, -, hl, h⟩ := pollStep_cases t s <;> rw [h]
  · exact .silentEnd t hq he
  · obtain ⟨-, h⟩ | ⟨-, h⟩ := closePoll_cases t s <;> rw [h]
    · exact .silentEnd t hq he
    · exact .silentWait t hq he
  · exact .readEnd t hq hne
  · obtain ⟨-, h⟩ | ⟨-, h⟩ := closePoll_cases t (s.pollAppend t) <;> rw [h]
    · exact .readEnd t hq hne
    · exact .readWait t hq hne hl

theorem recvStep_move (i : Instr) {k : RecvStep} {s : State} (hq : s.seq = .awaitingResponse k) :
    EngineMove i s (recvStep k s) := by
  cases k with
  | enter => exact .enter hq
  | readNow => exact .readNow hq
  | poll t => exact pollStep_move i hq
  | pause w =>
    simp only [recvStep]
    split
    · exact .wake w hq ‹_›
    · exact .stay

theorem checkStep_move (i : Instr) {s : State} (hq : s.seq = .validating .check) : EngineMove i s (checkStep s) := by
  obtain ⟨e, hv, h⟩ | ⟨p, hv, h⟩ := checkStep_cases s <;> rw [h]
  · exact .reject e hq hv
  · exact .accept p hq hv

theorem decodeRule_move (i : Instr) {p : List Byte} {s : State} (hq : s.seq = .validating (.decode p)) :
    EngineMove i s (decodeRule i p s) := by
  obtain ⟨hf, ⟨hp, hfc, h⟩ | ⟨hp, hfc, h⟩ | h⟩ | ⟨hf, b, h⟩ := decodeRule_cases i p s <;> rw [h]
  · exact .bits p hq hfc hp
  · exact .regs p hq hfc hp
  · exact .badLength p hq hf
  · exact .ack p b hq hf

/-- Every step of a running transaction is one of the moves. -/
theorem advance_move (i : Instr) (s : State) : EngineMove i s (advance (decodeRule i) s) := by
  obtain ⟨k, hq, h⟩ | ⟨k, hq, h⟩ | ⟨hq, h⟩ | ⟨p, hq, h⟩ | ⟨-, h⟩ := advance_cases (decodeRule i) s <;> rw [h]
  · exact sendStep_move i hq
  · exact recvStep_move i hq
  · exact checkStep_move i hq
  · exact decodeRule_move i hq
  · exact .stay

/-- What no operation writes: the host's registers and windows, CFG, NOW and the model's own fields; the port is only read
from, cleared of `tx_done`, and its events are only added to (R11, R12, R21 to R25, R27). -/
structure HostSideKept (s t : State) : Prop where
  x : t.x = s.x
  wcoil : t.wcoil = s.wcoil
  wreg : t.wreg = s.wreg
  written : t.written = s.written
  cfg : t.cfg = s.cfg
  now : t.now = s.now
  agenda : t.agenda = s.agenda
  hostData : t.hostData = s.hostData
  freeCount : t.freeCount = s.freeCount
  resets : t.resets = s.resets
  txDone : s.txDone = false → t.txDone = false
  rxq : t.rxq <:+ s.rxq
  events : s.events <+: t.events

theorem HostSideKept.refl (s : State) : HostSideKept s s := by constructor <;> simp

theorem EngineMove.hostSide {i : Instr} {s t : State} (m : EngineMove i s t) : HostSideKept s t := by
  cases m with
  | stay => exact .refl s
  | assertDe | releaseDe =>
    constructor <;> simp
    split <;> simp
  | _ => constructor <;> simp [buildAdu_eq, enterLoop, pollAppend_eq, checkCrc_eq, List.drop_suffix]

/-- A running transaction's record is not written before the next GO (R32). -/
theorem EngineMove.txn {i : Instr} {s t : State} (m : EngineMove i s t) : t.txn = s.txn := by
  cases m <;> simp [buildAdu_eq, enterLoop, pollAppend_eq, checkCrc_eq]

end Sys2Proof.Machine
end

section
/-! PROOFS. What one turn of an agent can do, as one inductive relation that keeps apart the engine, GO, the bootstrap layer and
the rest (R34). Unlike `Move` it names the turn, takes the engine's step apart, and joins what the host and the environment do
beside GO into one frame; and O44, which follows from it. -/

namespace Sys2Proof.Machine

open Sys2Proof

/-- What the host and the environment leave alone when they do not pulse GO: the engine's own registers and buffers, and, while a
transaction runs, the write-data windows (R12, R34). `NOW` only advances and `SER.tx_done` is only raised (R25, R27). -/
structure EngineSideKept (s t : State) : Prop where
  cfg : t.cfg = s.cfg
  seq : t.seq = s.seq
  txn : t.txn = s.txn
  rErr : t.rErr = s.rErr
  rExc : t.rExc = s.rExc
  rAck : t.rAck = s.rAck
  rCount : t.rCount = s.rCount
  rbits : t.rbits = s.rbits
  rregs : t.rregs = s.rregs
  txbuf : t.txbuf = s.txbuf
  txlen : t.txlen = s.txlen
  rxbuf : t.rxbuf = s.rxbuf
  rxlen : t.rxlen = s.rxlen
  tStart : t.tStart = s.tStart
  tLast : t.tLast = s.tLast
  de : t.de = s.de
  events : t.events = s.events
  resets : t.resets = s.resets
  now : s.now ≤ t.now
  txDone : s.txDone = true → t.txDone = true
  windows : s.busy = true → t.wcoil = s.wcoil ∧ t.wreg = s.wreg ∧ t.written = s.written

theorem EngineSideKept.refl (s : State) : EngineSideKept s s := by constructor <;> simp

theorem hostWriteReg_engineSide (n : Nat) (v : Word) (s : State) : EngineSideKept s (s.hostWriteReg n v) := by
  unfold State.hostWriteReg
  split
  · exact .refl s
  · constructor <;> simp [*]

theorem writeWindow_engineSide (w : Window) (i : Nat) (v : Word) {s : State} (hb : s.busy = false) :
    EngineSideKept s (s.writeWindow w i v) := by
  cases w <;> constructor <;> simp [State.writeWindow, hb]

theorem hostWriteElem_engineSide (w : Window) (i : Nat) (v : Word) (s : State) : EngineSideKept s (s.hostWriteElem w i v) := by
  unfold State.hostWriteElem
  split
  · exact .refl s
  · exact writeWindow_engineSide w i v (by simpa using ‹¬s.busy = true›)

theorem deliver_engineSide (c : Option Word) (v : Int) (s : State) : EngineSideKept s (s.deliver c v) := by
  constructor <;> simp

theorem envTurn_engineSide (a : EnvAct) (s : State) : EngineSideKept s (envTurn a s) := by
  cases a <;> constructor <;> simp [envTurn]

/-- What turn `u` can do to `s`. -/
inductive TurnEffect (u : Turn) (s t : State) : Prop
  /-- A step of the running transaction, or nothing (R172). -/
  | engine (i : Instr) (hu : u = .engine) (hb : s.busy = true) (hf : s.fetchTxn = some i) (m : EngineMove i s t)
  /-- GO, accepted with the PDU of the operation in the operand registers or rejected (R15, R171, R72). -/
  | go (v : Word) (x : Operands) (p : Except Err (List Byte)) (hu : u = .host (.writeReg 8 v)) (hv : v.getLsbD 0 = true)
      (hb : s.busy = false)
      (accepted : ∀ pdu, p = .ok pdu →
        ∃ i, s.fetchCommand = some i ∧ x = callOperands i s.operands ∧ encodeRule s.cfg i = .ok pdu)
      (rejected : ∀ e, p = .error e → e = .invalidParameter) (ht : t = Machine.go x p s)
  /-- Reset, or construction with a legal record (R36, R210). -/
  | boot (a : BootAct) (c : Cfg) (hu : u = .boot a) (hc : c = s.cfg ∨ c.valid = true) (ht : t = s.resetEngine c)
  /-- Anything else. -/
  | outside (k : EngineSideKept s t)

theorem engineTurn_effect {s t : State} (h : engineTurn s = .next t) : TurnEffect .engine s t := by
  obtain ⟨i, hb, hf, he⟩ | ⟨-, he⟩ := engineTurn_cases s
  · rw [he, exec_own hb (fetchTxn_functionCode hf)] at h
    injection h with h
    exact .engine i rfl hb hf (h ▸ advance_move i s)
  · rw [he] at h
    injection h with h
    exact h ▸ .outside (.refl s)

theorem goTurn_effect {v : Word} {s t : State} (hv : v.getLsbD 0 = true) (h : goTurn s = .next t) :
    TurnEffect (.host (.writeReg 8 v)) s t := by
  obtain ⟨-, he⟩ | ⟨i, hb, hf, he⟩ | ⟨hb, -, he⟩ := goTurn_cases s
  · rw [he] at h
    injection h with h
    exact h ▸ .outside (.refl s)
  · rw [he, exec_rest hb] at h
    injection h with h
    exact .go v _ _ rfl hv hb (fun _ hp => ⟨i, hf, rfl, hp⟩) (fun _ he => encodeRule_error he) h.symm
  · rw [he] at h
    injection h with h
    exact .go v s.operands (.error .invalidParameter) rfl hv hb (fun _ hp => nomatch hp)
      (fun _ he => by injection he with he; exact he.symm) h.symm

theorem hostTurn_effect {a : HostAct} {s t : State} (h : hostTurn a s = .next t) : TurnEffect (.host a) s t := by
  cases a with
  | writeReg n v =>
    simp only [hostTurn] at h
    split_ifs at h with hn hgo
    · obtain ⟨rfl, hv⟩ := hgo
      exact goTurn_effect hv h
    · injection h with h
      exact h ▸ .outside (hostWriteReg_engineSide n v s)
  | readReg n =>
    simp only [hostTurn] at h
    split_ifs at h
    injection h with h
    exact h ▸ .outside (deliver_engineSide _ _ s)
  | writeElem w i v =>
    simp only [hostTurn] at h
    split_ifs at h
    injection h with h
    exact h ▸ .outside (hostWriteElem_engineSide w i v s)
  | readElem w i =>
    simp only [hostTurn] at h
    split_ifs at h
    injection h with h
    exact h ▸ .outside (deliver_engineSide _ _ s)

theorem bootTurn_effect {a : BootAct} {s t : State} (h : bootTurn a s = .next t) : TurnEffect (.boot a) s t := by
  cases a with
  | construct c =>
    simp only [bootTurn] at h
    split_ifs at h with hc
    injection h with h
    exact .boot _ c rfl (.inr hc) h.symm
  | reset =>
    injection h with h
    exact .boot _ s.cfg rfl (.inl rfl) h.symm

theorem takeTurn_effect {u : Turn} {s t : State} (h : takeTurn u s = .next t) : TurnEffect u s t := by
  cases u with
  | engine => exact engineTurn_effect h
  | host a => exact hostTurn_effect h
  | env a =>
    injection h with h
    exact h ▸ .outside (envTurn_engineSide a s)
  | boot a => exact bootTurn_effect h

/-- A step is the effect of the agenda's first turn, or of an engine's turn where there is none (log 5). -/
theorem step_effect {s t : State} (h : step s = .next t) :
    ∃ ag, TurnEffect (s.agenda.headD .engine) { s with agenda := ag } t := by
  obtain ⟨ha, he⟩ | ⟨u, rest, ha, he⟩ := step_cases s
  · rw [he] at h
    refine ⟨s.agenda, ?_⟩
    rw [show s.agenda.headD .engine = .engine by rw [ha]; rfl]
    exact engineTurn_effect h
  · rw [he] at h
    refine ⟨rest, ?_⟩
    rw [show s.agenda.headD .engine = u by rw [ha]; rfl]
    exact takeTurn_effect h

theorem resetEngine_seq (c : Cfg) (s : State) : (s.resetEngine c).seq = .idle := rfl

/-- GO leads to the build of the accepted PDU or to `Failed`. -/
theorem go_seq (x : Operands) (p : Except Err (List Byte)) (s : State) :
    (∃ pdu, p = .ok pdu ∧ (go x p s).seq = .sending (.build pdu)) ∨ (∃ e, p = .error e ∧ (go x p s).seq = .failed) := by
  cases p with
  | ok pdu => exact .inl ⟨pdu, rfl, rfl⟩
  | error e => exact .inr ⟨e, rfl, rfl⟩

/-- STATE in a step of a running transaction: it stays, goes on to the next phase, or ends from `Validating` (R170). -/
theorem EngineMove.seq_code {i : Instr} {s t : State} (m : EngineMove i s t) :
    t.seq.code = s.seq.code ∨ (s.seq.code = 1 ∧ t.seq.code = 2) ∨ (s.seq.code = 2 ∧ t.seq.code = 3) ∨
      (s.seq.code = 3 ∧ (t.seq.code = 4 ∨ t.seq.code = 5)) := by
  cases m with
  | stay => exact .inl rfl
  | _ => simp [Seq.code, buildAdu_eq, enterLoop, *]

theorem stateMove_self (u : Turn) (a : Nat) : stateMove u a a = true :=
  Bool.or_eq_true_iff.2 (.inl (decide_eq_true rfl))

theorem stateMove_engine (a b : Nat) : stateMove .engine a b = true ↔
    b = a ∨ (a = 1 ∧ b = 2) ∨ (a = 2 ∧ b = 3) ∨ (a = 3 ∧ (b = 4 ∨ b = 5)) := by
  rw [show stateMove .engine a b = (decide (a = b) ||
    (decide (a = 1 ∧ b = 2) || decide (a = 2 ∧ b = 3) || decide (a = 3 ∧ (b = 4 ∨ b = 5)))) from rfl]
  simp only [Bool.or_eq_true, decide_eq_true_eq]
  omega

theorem stateMove_go {v : Word} (hv : v.getLsbD 0 = true) {a b : Nat} (ha : a = 0 ∨ a = 4 ∨ a = 5) (hb : b = 1 ∨ b = 5) :
    stateMove (.host (.writeReg 8 v)) a b = true := by
  rw [show stateMove (.host (.writeReg 8 v)) a b = (decide (a = b) ||
    (v.getLsbD 0 && decide (a = 0 ∨ a = 4 ∨ a = 5) && decide (b = 1 ∨ b = 5))) from rfl]
  simp [hv, ha, hb]

theorem stateMove_boot (x : BootAct) (a : Nat) : stateMove (.boot x) a 0 = true :=
  Bool.or_eq_true_iff.2 (.inr rfl)

theorem Seq.code_of_rest {q : Seq} (h : q.busy = false) : q.code = 0 ∨ q.code = 4 ∨ q.code = 5 := by
  cases q <;> simp_all [Seq.busy, Seq.code]

/-- Settles O44: of the effects of a turn only the engine's, GO's and the bootstrap layer's change STATE. -/
theorem stateTakesOnlyItsTransitions : Obligations.StateTakesOnlyItsTransitions := by
  intro s t h
  obtain ⟨ag, e⟩ := step_effect h
  cases e with
  | engine i hu _ _ m => rw [hu, stateMove_engine]; exact m.seq_code
  | go v x p hu hv hb _ _ ht =>
    rw [hu]
    refine stateMove_go hv (Seq.code_of_rest hb) ?_
    obtain ⟨pdu, -, hq⟩ | ⟨e, -, hq⟩ := go_seq x p { s with agenda := ag } <;> rw [ht, hq] <;> simp [Seq.code]
  | boot a c hu _ ht => rw [hu, ht]; exact stateMove_boot a _
  | outside k => rw [k.seq]; exact stateMove_self _ _

end Sys2Proof.Machine
end

section
/-! PROOFS. The invariants of Safety.lean: each is kept by the engine's moves, by GO, by reset and construction, and by what the
host and the environment do beside them. -/

namespace Sys2Proof.Machine

open Sys2Proof

/-! ### The running transaction (R32, R100) -/

/-- The operation in TXN is the same where TXN, the write-data windows and what is written of them are (R32, R55). -/
theorem State.fetchTxn_congr {s t : State} (ht : t.txn = s.txn) (hc : t.wcoil = s.wcoil) (hr : t.wreg = s.wreg)
    (hw : t.written = s.written) (hn : t.resets = s.resets) : t.fetchTxn = s.fetchTxn := by
  simp only [State.fetchTxn, ht, State.coils_congr hc hw hn, State.regs_congr hr hw hn]

theorem State.busy_congr {s t : State} (h : t.seq = s.seq) : t.busy = s.busy := by rw [State.busy, State.busy, h]

/-- A transaction that goes on unchanged keeps the invariant. -/
theorem TxnInv.congr {s t : State} (h : TxnInv s) (hcfg : t.cfg = s.cfg) (hb : t.busy = true → s.busy = true)
    (ht : t.txn = s.txn) (hf : t.busy = true → t.fetchTxn = s.fetchTxn) : TxnInv t where
  cfg := by rw [hcfg]; exact h.cfg
  running hb' := by rw [hf hb', hcfg]; exact h.running (hb hb')
  counted hb' := by rw [ht]; exact h.counted (hb hb')

/-- A record at rest has the invariant when its configuration is legal. -/
theorem TxnInv.of_rest {s : State} (hc : s.cfg.valid = true) (hb : s.busy = false) : TxnInv s where
  cfg := hc
  running h := by simp [hb] at h
  counted h := by simp [hb] at h

theorem TurnEffect.txnInv {u : Turn} {s t : State} (e : TurnEffect u s t) (h : TxnInv s) : TxnInv t := by
  cases e with
  | engine i hu hb hf m =>
    have k := m.hostSide
    exact h.congr k.cfg (fun _ => hb) m.txn fun _ => State.fetchTxn_congr m.txn k.wcoil k.wreg k.written k.resets
  | go v x p hu hv hb accepted rejected ht =>
    subst ht
    cases p with
    | error e => exact .of_rest h.cfg rfl
    | ok pdu =>
      obtain ⟨i, hf, rfl, hp⟩ := accepted pdu rfl
      exact ⟨h.cfg, fun _ => ⟨i, fetchTxn_latch hf _ _ _ _ _, (encodeRule_ok hp).1⟩, fun _ => rfl⟩
  | boot a c hu hc ht =>
    subst ht
    exact .of_rest (hc.elim (fun e => e ▸ h.cfg) id) rfl
  | outside k =>
    have hb := State.busy_congr k.seq
    refine h.congr k.cfg (fun hb' => hb ▸ hb') k.txn fun hb' => ?_
    obtain ⟨hc, hr, hw⟩ := k.windows (hb ▸ hb')
    exact State.fetchTxn_congr k.txn hc hr hw k.resets

/-! ### The lengths (R28, R29, R77, R139) -/

/-- Outside the build and the loop only the two lengths count. -/
theorem LengthInv.of_lengths {s : State} (ht : s.txlen ≤ 255) (hr : s.rxlen ≤ s.cfg.rxCap)
    (hb : ∀ pdu, s.seq ≠ .sending (.build pdu)) (hl : s.seq.inLoop = false) : LengthInv s where
  txlen := ht
  pdu p hp := absurd hp (hb p)
  rxlen := hr
  loop h := by simp [hl] at h

/-- A poll reads no more than there is room for (R137, R139). -/
theorem pollAppend_rxlen_le {s : State} (h : s.rxlen ≤ s.cfg.rxCap) (t : Nat) : (s.pollAppend t).rxlen ≤ s.cfg.rxCap := by
  rw [show (s.pollAppend t).rxlen = s.rxlen + (s.rxq.take s.pollTake).length from rfl, pollTake_length, State.pollTake]
  omega

theorem EngineMove.lengthInv {i : Instr} {s t : State} (m : EngineMove i s t) (hc : s.cfg.valid = true) (h : LengthInv s) :
    LengthInv t := by
  obtain ⟨htx, hpdu, hrx, hloop⟩ := h
  have inLoop : ∀ k, s.seq = .awaitingResponse k → k ≠ .enter → s.rxlen < s.cfg.rxCap := by
    intro k hq hk
    refine hloop ?_
    rw [hq]
    cases k with
    | enter => exact absurd rfl hk
    | _ => rfl
  cases m with
  | stay => exact ⟨htx, hpdu, hrx, hloop⟩
  | build pdu hq =>
    obtain ⟨-, hl⟩ := hpdu pdu hq
    rw [buildAdu_eq]
    refine .of_lengths ?_ hrx (by simp) rfl
    simp only [frame_length, List.length_cons]
    omega
  | enter hq =>
    obtain ⟨-, -, -, hcap, -, -⟩ := (cfg_valid_iff _).1 hc
    exact ⟨htx, fun pdu hp => by simp [enterLoop] at hp, Nat.zero_le _, fun _ => by simp only [enterLoop]; omega⟩
  | readNow hq => exact ⟨htx, by simp, hrx, fun _ => inLoop _ hq (by simp)⟩
  | silentWait t hq _ => exact ⟨htx, by simp, hrx, fun _ => inLoop _ hq (by simp)⟩
  | wake w hq _ => exact ⟨htx, by simp, hrx, fun _ => inLoop _ hq (by simp)⟩
  | readEnd t _ _ => exact .of_lengths htx (pollAppend_rxlen_le hrx t) (by simp) rfl
  | readWait t _ _ hl =>
    have hle := pollAppend_rxlen_le hrx t
    exact ⟨htx, by simp, hle, fun _ => lt_of_le_of_ne hle hl⟩
  | _ => refine .of_lengths ?_ ?_ ?_ ?_ <;> simp [checkCrc_eq, Seq.inLoop, htx, hrx]

theorem TurnEffect.lengthInv {u : Turn} {s t : State} (e : TurnEffect u s t) (hx : TxnInv s) (h : LengthInv s) : LengthInv t := by
  cases e with
  | engine i _ _ _ m => exact m.lengthInv hx.cfg h
  | go v x p _ _ _ accepted _ ht =>
    subst ht
    cases p with
    | error e => exact .of_lengths h.txlen h.rxlen (by simp [go_error]) rfl
    | ok pdu =>
      obtain ⟨i, -, -, hp⟩ := accepted pdu rfl
      refine ⟨h.txlen, fun q hq => ?_, h.rxlen, fun hl => nomatch hl⟩
      obtain rfl : pdu = q := by simpa [go_ok] using hq
      exact encodeRule_ok_length hx.cfg hp
  | boot a c _ _ ht =>
    subst ht
    exact .of_lengths (Nat.zero_le _) (Nat.zero_le _) (by simp [resetEngine_seq]) rfl
  | outside k =>
    obtain ⟨htx, hpdu, hrx, hloop⟩ := h
    constructor <;> simpa only [k.txlen, k.rxlen, k.cfg, k.seq]

/-! ### The result registers (R17 to R20) -/

/-- The results of a state that is neither `Completed` nor `Failed` (R182). -/
theorem ResultInv.of_running {s : State} (hf : s.seq ≠ .failed) (hc : s.seq ≠ .completed) (he : s.rErr = .none)
    (hx : s.rExc = 0#8) (ha : s.rAck = false) (hn : s.rCount = 0#16) : ResultInv s := by
  constructor <;> simp [*]

theorem ResultInv.of_failed {s : State} (hf : s.seq = .failed) (he : s.rErr ≠ .none)
    (hx : s.rErr ≠ .slaveException → s.rExc = 0#8) (ha : s.rAck = false) (hn : s.rCount = 0#16) : ResultInv s where
  err := by simp [hf, he]
  exc h := by by_contra hs; exact h (hx hs)
  ack h := by simp [ha] at h
  count h := absurd hn h
  read h := by simp [hf] at h
  range := by simp [hn]

/-- While a transaction runs the results are withdrawn (R171). -/
theorem ResultInv.running {s : State} (h : ResultInv s) (hb : s.busy = true) :
    s.rErr = .none ∧ s.rExc = 0#8 ∧ s.rAck = false ∧ s.rCount = 0#16 := by
  have hf : s.seq ≠ .failed := fun e => by simp [State.busy, e, Seq.busy] at hb
  have hc : s.seq ≠ .completed := fun e => by simp [State.busy, e, Seq.busy] at hb
  have he : s.rErr = .none := by by_contra hn; exact hf (h.err.1 hn)
  refine ⟨he, ?_, ?_, ?_⟩
  · by_contra hn; simpa [he] using h.exc hn
  · by_contra hn; exact hc (h.ack (by simpa using hn)).1
  · by_contra hn; exact hc (h.count hn).1

theorem Err.code_ne_none (e : Err) : e.code ≠ .none := by cases e <;> simp [Err.code]

theorem Err.info_of_code {e : Err} (h : e.code ≠ .slaveException) : e.info = 0#8 := by cases e <;> simp_all [Err.code, Err.info]

theorem raise_resultInv (e : Err) (s : State) : ResultInv (s.raise e) :=
  .of_failed rfl e.code_ne_none Err.info_of_code rfl rfl

/-- A well-formed read in TXN asks for at most 2000 elements (R101 to R104). -/
theorem qty_le_of_read {s : State} {i : Instr} {m : Nat} (hf : s.fetchTxn = some i) (hwf : i.wf m = true)
    (hc : countPrefixed i.functionCode = true) : s.txn.qty.toNat ≤ 2000 := by
  unfold State.fetchTxn decodeCommand at hf
  split at hf <;> cases hf
  · exact ((wf_readCoils _ _ _ _).1 hwf).2
  · exact ((wf_readDiscreteInputs _ _ _ _).1 hwf).2
  · exact ((wf_readHoldingRegisters _ _ _ _).1 hwf).2.trans (by decide)
  · exact ((wf_readInputRegisters _ _ _ _).1 hwf).2.trans (by decide)
  all_goals cases hc

/-- A read that fills its window leaves `R_COUNT` at its quantity. -/
theorem completed_read_resultInv {t : State} (hq : t.seq = .completed) (he : t.rErr = .none) (hx : t.rExc = 0#8)
    (ha : t.rAck = false) (hn : t.rCount = t.txn.qty) (hc : t.txn.counted = true) (hr : t.txn.qty.toNat ≤ 2000) :
    ResultInv t := by
  constructor <;> simp [*]

theorem EngineMove.resultInv {i : Instr} {s t : State} (m : EngineMove i s t) (hb : s.busy = true) (hf : s.fetchTxn = some i)
    (hx : TxnInv s) (h : ResultInv s) : ResultInv t := by
  obtain ⟨he, hexc, hack, hcount⟩ := h.running hb
  have counted : s.txn.counted = countPrefixed i.functionCode := by rw [hx.counted hb, fetchTxn_functionCode hf]
  have qty : countPrefixed i.functionCode = true → s.txn.qty.toNat ≤ 2000 := by
    obtain ⟨j, hj, hwf⟩ := hx.running hb
    obtain rfl : i = j := Option.some.inj (hf.symm.trans hj)
    exact qty_le_of_read hf hwf
  cases m with
  | stay => exact h
  | reject e => exact raise_resultInv e _
  | badLength => exact raise_resultInv _ _
  | bits p hq hfc hp =>
    have hc : countPrefixed i.functionCode = true := by rcases hfc with e | e <;> rw [e] <;> rfl
    exact completed_read_resultInv rfl he hexc hack rfl (counted.trans hc) (qty hc)
  | regs p hq hfc hp =>
    have hc : countPrefixed i.functionCode = true := by rcases hfc with e | e <;> rw [e] <;> rfl
    exact completed_read_resultInv rfl he hexc hack rfl (counted.trans hc) (qty hc)
  | ack p b hq hfc => constructor <;> simp [*]
  | _ => apply ResultInv.of_running <;> simp [buildAdu_eq, enterLoop, pollAppend_eq, checkCrc_eq, *]

theorem TurnEffect.resultInv {u : Turn} {s t : State} (e : TurnEffect u s t) (hx : TxnInv s) (h : ResultInv s) : ResultInv t := by
  cases e with
  | engine i _ hb hf m => exact m.resultInv hb hf hx h
  | go v x p _ _ _ _ _ ht =>
    subst ht
    cases p with
    | error e => exact raise_resultInv e _
    | ok pdu => exact .of_running (by simp [go_ok]) (by simp [go_ok]) rfl rfl rfl rfl
  | boot a c _ _ ht =>
    subst ht
    exact .of_running (by simp [resetEngine_seq]) (by simp [resetEngine_seq]) rfl rfl rfl rfl
  | outside k =>
    obtain ⟨herr, hexc, hack, hcount, hread, hrange⟩ := h
    constructor <;> simpa only [k.rErr, k.seq, k.rExc, k.rAck, k.rCount, k.txn]

/-! ### The clock (R27, R30) -/

/-- Outside the loop nothing is claimed of the saved readings. -/
theorem ClockInv.of_not_inLoop {s : State} (h : s.seq.inLoop = false) : ClockInv s where
  start hl := by simp [h] at hl
  poll t hq := by simp [hq, Seq.inLoop] at h

/-- Inside the loop but for a poll only the two saved readings count. -/
theorem ClockInv.of_order {s : State} (hs : s.tStart ≤ s.tLast ∧ s.tLast ≤ s.now)
    (hq : ∀ t, s.seq ≠ .awaitingResponse (.poll t)) : ClockInv s where
  start _ := hs
  poll t ht := absurd ht (hq t)

theorem EngineMove.clockInv {i : Instr} {s t : State} (m : EngineMove i s t) (h : ClockInv s) : ClockInv t := by
  cases m with
  | stay => exact h
  | enter => exact .of_order ⟨le_refl _, le_refl _⟩ (by simp [enterLoop])
  | readNow hq =>
    obtain ⟨h1, h2⟩ := h.start (by rw [hq]; rfl)
    refine ⟨fun _ => ⟨h1, h2⟩, fun t ht => ?_⟩
    obtain rfl : s.now = t := by simpa using ht
    exact ⟨h2, le_refl _⟩
  | silentWait t hq => exact .of_order (h.start (by rw [hq]; rfl)) (by simp)
  | readWait t hq =>
    obtain ⟨h1, -⟩ := h.start (by rw [hq]; rfl)
    obtain ⟨h2, h3⟩ := h.poll t hq
    exact .of_order ⟨h1.trans h2, h3⟩ (by simp)
  | wake w hq => exact .of_order (h.start (by rw [hq]; rfl)) (by simp)
  | _ => exact .of_not_inLoop rfl

theorem TurnEffect.clockInv {u : Turn} {s t : State} (e : TurnEffect u s t) (h : ClockInv s) : ClockInv t := by
  cases e with
  | engine i _ _ _ m => exact m.clockInv h
  | go v x p _ _ _ _ _ ht =>
    subst ht
    cases p <;> exact .of_not_inLoop rfl
  | boot a c _ _ ht => subst ht; exact .of_not_inLoop rfl
  | outside k =>
    obtain ⟨hstart, hpoll⟩ := h
    have hn := k.now
    constructor <;> simp only [k.tStart, k.tLast, k.seq]
    · exact fun hl => ⟨(hstart hl).1, (hstart hl).2.trans hn⟩
    · exact fun t ht => ⟨(hpoll t ht).1, (hpoll t ht).2.trans hn⟩

/-! ### The line (R26, R51, R52) -/

/-- One more event moves the line by one phase. -/
theorem linePhase_append {d : Bool} {es : List PortEvent} {p : LinePhase} (h : linePhase d es = some p) (e : PortEvent) :
    linePhase d (es ++ [e]) = p.next d e := by
  rw [linePhase, List.foldl_append, ← linePhase, h]
  rfl

/-- The line's invariant after a step with no port event. -/
theorem LineInv.of_silent {s t : State} {p : LinePhase} (hp : linePhase s.cfg.dePresent s.events = some p) (hc : t.cfg = s.cfg)
    (he : t.events = s.events) (hm : p ∈ t.seq.linePhases s.cfg.dePresent)
    (hd : t.de = (s.cfg.dePresent && t.seq.deAsserted)) (hr : t.seq = .sending .releaseDe → t.txDone = true) : LineInv t :=
  ⟨⟨p, by rw [hc, he, hp], by rwa [hc]⟩, by rw [hc, hd], hr⟩

/-- The line's invariant after a step with one port event, which no step to the release has. -/
theorem LineInv.of_event {s t : State} {p p' : LinePhase} {e : PortEvent} (hp : linePhase s.cfg.dePresent s.events = some p)
    (hc : t.cfg = s.cfg) (he : t.events = s.events ++ [e]) (hn : p.next s.cfg.dePresent e = some p')
    (hm : p' ∈ t.seq.linePhases s.cfg.dePresent) (hd : t.de = (s.cfg.dePresent && t.seq.deAsserted))
    (hr : t.seq ≠ .sending .releaseDe) : LineInv t :=
  ⟨⟨p', by rw [hc, he, linePhase_append hp, hn], by rwa [hc]⟩, by rw [hc, hd], fun h => absurd h hr⟩

theorem next_flushRx {p : LinePhase} (h : p = .quiet ∨ p = .listening) (d : Bool) : p.next d .flushRx = some .flushed := by
  rcases h with rfl | rfl <;> rfl

theorem EngineMove.lineInv {i : Instr} {s t : State} (m : EngineMove i s t) (h : LineInv s) : LineInv t := by
  obtain ⟨⟨p, hp, hm⟩, hde, hdone⟩ := h
  cases m with
  | stay => exact ⟨⟨p, hp, hm⟩, hde, hdone⟩
  | build pdu hq =>
    rw [hq] at hm hde
    rw [buildAdu_eq]
    exact .of_silent hp rfl rfl hm hde (by simp)
  | drain hq hd =>
    have hm : p = .quiet ∨ p = .listening := by simpa [hq, Seq.linePhases] using hm
    exact .of_event hp rfl rfl (next_flushRx hm _) (by simp [Seq.linePhases, hd]) (by simp [hde, hq, Seq.deAsserted]) (by simp)
  | drainNoDe hq hd =>
    have hm : p = .quiet ∨ p = .listening := by simpa [hq, Seq.linePhases] using hm
    exact .of_event hp rfl rfl (next_flushRx hm _) (by simp [Seq.linePhases, hd]) (by simp [hde, hd]) (by simp)
  | assertDe hq =>
    have hd : s.cfg.dePresent = true ∧ p = .flushed := by simpa [hq, Seq.linePhases] using hm
    obtain ⟨hd, rfl⟩ := hd
    exact .of_event hp (p' := .driving) (e := .de true) (by simp) (by simp [hd]) (by rw [hd]; rfl) (by simp [Seq.linePhases, hd])
      (by simp [hd, Seq.deAsserted]) (by simp)
  | write hq hd =>
    obtain rfl : p = .driving := by simpa [hq, hd, Seq.linePhases] using hm
    exact .of_event hp rfl rfl rfl (by simp [Seq.linePhases, hd]) (by simp [hde, hq, Seq.deAsserted]) (by simp)
  | writeNoDe hq hd =>
    obtain rfl : p = .flushed := by simpa [hq, hd, Seq.linePhases] using hm
    exact .of_event hp (p' := .listening) rfl rfl (by rw [hd]; rfl) (by simp [Seq.linePhases]) (by simp [hde, hd]) (by simp)
  | doneSeen hq hd =>
    rw [hq] at hm hde
    exact .of_silent hp rfl rfl hm hde fun _ => hd
  | releaseDe hq =>
    have hd : s.cfg.dePresent = true ∧ p = .sent := by simpa [hq, Seq.linePhases] using hm
    obtain ⟨hd, rfl⟩ := hd
    exact .of_event hp (p' := .listening) (e := .de false) (by simp) (by simp [hd]) rfl (by simp [Seq.linePhases])
      (by simp [hd, Seq.deAsserted]) (by simp)
  | readEnd t hq =>
    obtain rfl : p = .listening := by simpa [hq, Seq.linePhases] using hm
    exact .of_event hp rfl rfl rfl (by simp [Seq.linePhases]) (by simp [pollAppend_eq, hde, hq, Seq.deAsserted]) (by simp)
  | readWait t hq =>
    obtain rfl : p = .listening := by simpa [hq, Seq.linePhases] using hm
    exact .of_event hp rfl rfl rfl (by simp [Seq.linePhases]) (by simp [pollAppend_eq, hde, hq, Seq.deAsserted]) (by simp)
  | _ =>
    apply LineInv.of_silent hp <;> simp_all [Seq.linePhases, enterLoop, checkCrc_eq, Seq.deAsserted]

/-- At rest the line is quiet or on the receive side and `DE` is released. -/
theorem LineInv.at_rest {s : State} (h : LineInv s) (hb : s.busy = false) :
    s.de = false ∧ ∃ p, linePhase s.cfg.dePresent s.events = some p ∧ (p = .quiet ∨ p = .listening) := by
  obtain ⟨⟨p, hp, hm⟩, hde, -⟩ := h
  cases hq : s.seq <;> simp_all [State.busy, Seq.busy, Seq.linePhases, Seq.deAsserted]

theorem TurnEffect.lineInv {u : Turn} {s t : State} (e : TurnEffect u s t) (h : LineInv s) : LineInv t := by
  cases e with
  | engine i _ _ _ m => exact m.lineInv h
  | go v x p _ _ hb _ _ ht =>
    subst ht
    obtain ⟨hde, q, hp, hq⟩ := h.at_rest hb
    cases p with
    | error e =>
      exact .of_silent hp rfl rfl (by simpa [go_error, Seq.linePhases] using hq) (by simp [go_error, hde, Seq.deAsserted])
        (by simp [go_error])
    | ok pdu =>
      exact .of_silent hp rfl rfl (by simpa [go_ok, Seq.linePhases] using hq) (by simp [go_ok, hde, Seq.deAsserted])
        (by simp [go_ok])
  | boot a c _ _ ht =>
    subst ht
    exact ⟨⟨.quiet, rfl, List.mem_singleton.2 rfl⟩, (Bool.and_false _).symm, fun h => nomatch h⟩
  | outside k =>
    obtain ⟨⟨p, hp, hm⟩, hde, hdone⟩ := h
    exact .of_silent hp k.cfg k.events (by rwa [k.seq]) (by rw [k.de, k.seq, hde])
      fun hq => k.txDone (hdone (by rwa [← k.seq]))

end Sys2Proof.Machine
end

section
/-! PROOFS. O48 and O50 to O53: every step keeps the invariants. -/

namespace Sys2Proof.Machine

/-! ### The invariants do not speak of the agenda (log 5) -/

theorem TxnInv.with_agenda {s : State} (h : TxnInv s) (ag : List Turn) : TxnInv { s with agenda := ag } :=
  ⟨h.cfg, h.running, h.counted⟩

theorem LengthInv.with_agenda {s : State} (h : LengthInv s) (ag : List Turn) : LengthInv { s with agenda := ag } :=
  ⟨h.txlen, h.pdu, h.rxlen, h.loop⟩

theorem ResultInv.with_agenda {s : State} (h : ResultInv s) (ag : List Turn) : ResultInv { s with agenda := ag } :=
  ⟨h.err, h.exc, h.ack, h.count, h.read, h.range⟩

theorem ClockInv.with_agenda {s : State} (h : ClockInv s) (ag : List Turn) : ClockInv { s with agenda := ag } :=
  ⟨h.start, h.poll⟩

theorem LineInv.with_agenda {s : State} (h : LineInv s) (ag : List Turn) : LineInv { s with agenda := ag } :=
  ⟨h.order, h.de, h.done⟩

/-- Settles O48: the engine leaves TXN and the windows alone, and GO starts only what its encode rule accepts. -/
theorem stepKeepsTheRunningTransaction : Obligations.StepKeepsTheRunningTransaction := by
  intro s t h hs
  obtain ⟨ag, e⟩ := step_effect hs
  exact e.txnInv (h.with_agenda ag)

/-- Settles O50: GO's PDU has 5 to 252 bytes, and a poll takes no more bytes than there is room for. -/
theorem stepKeepsTheLengths : Obligations.StepKeepsTheLengths := by
  intro s t hx h hs
  obtain ⟨ag, e⟩ := step_effect hs
  exact e.lengthInv (hx.with_agenda ag) (h.with_agenda ag)

/-- Settles O51: GO and reset withdraw the results, and only the end of a transaction sets them. -/
theorem stepKeepsTheResultRegisters : Obligations.StepKeepsTheResultRegisters := by
  intro s t hx h hs
  obtain ⟨ag, e⟩ := step_effect hs
  exact e.resultInv (hx.with_agenda ag) (h.with_agenda ag)

/-- Settles O52: each saved reading is `NOW` at the step that takes it, and `NOW` never goes back. -/
theorem stepKeepsTheClock : Obligations.StepKeepsTheClock := by
  intro s t h hs
  obtain ⟨ag, e⟩ := step_effect hs
  exact e.clockInv (h.with_agenda ag)

/-- Settles O53: each place of the sequencer admits the port event of its step. -/
theorem stepKeepsTheLineOrder : Obligations.StepKeepsTheLineOrder := by
  intro s t h hs
  obtain ⟨ag, e⟩ := step_effect hs
  exact e.lineInv (h.with_agenda ag)

end Sys2Proof.Machine
end

section
/-! PROOFS. O19, O42, O43, O45, O46: what an operation's step leaves alone, how `Failed` is entered, and a run up to the drain. -/

namespace Sys2Proof.Machine

open Sys2Proof

/-- Settles O19: GO latches the operand registers, so TXN describes what they do. -/
theorem txnKeepsTheOperation : Obligations.TxnKeepsTheOperation := by
  intro i s t hb hf he _
  rw [exec_rest hb] at he
  injection he with he
  subst he
  cases encodeRule s.cfg i with
  | error e => exact fetchTxn_latch hf _ _ _ _ _
  | ok pdu => exact fetchTxn_latch hf _ _ _ _ _

/-! ### One call of `exec` -/

theorem go_hostSide (x : Operands) (p : Except Err (List Byte)) (s : State) : HostSideKept s (go x p s) := by
  cases p <;> constructor <;> simp [go_ok, go_error]

/-- The outcome of one call of `exec`: GO at rest, a move of its own transaction, or nothing (R171, R172, R181). -/
theorem exec_cases (i : Instr) (s : State) : ∃ t, exec i s = .next t ∧
    ((s.busy = false ∧ t = go (callOperands i s.operands) (encodeRule s.cfg i) s) ∨ EngineMove i s t) := by
  refine ⟨_, exec_eq_transact i s, ?_⟩
  obtain ⟨hb, h⟩ | ⟨-, -, h⟩ | ⟨-, -, h⟩ :=
    transact_cases (callOperands i s.operands) (encodeRule s.cfg i) (decodeRule i) s <;> rw [h]
  · exact .inl ⟨hb, rfl⟩
  · exact .inr (advance_move i s)
  · exact .inr .stay

/-- Settles O45: no move of a transaction and no GO writes the host's side. -/
theorem operationsLeaveTheHostsSideAlone : Obligations.OperationsLeaveTheHostsSideAlone := by
  intro i s
  obtain ⟨t, ht, hm⟩ := exec_cases i s
  have k : HostSideKept s t := by
    obtain ⟨-, rfl⟩ | m := hm
    · exact go_hostSide _ _ s
    · exact m.hostSide
  obtain ⟨taken, hq⟩ := k.rxq
  obtain ⟨es, he⟩ := k.events
  exact ⟨t, ht, k.x, k.wcoil, k.wreg, k.cfg, k.now, k.agenda, k.hostData, k.freeCount, k.resets, k.written, k.txDone,
    ⟨taken, hq.symm⟩, es, he.symm⟩

theorem EngineMove.rbits {i : Instr} {s t : State} (m : EngineMove i s t) (h : t.rbits ≠ s.rbits) :
    t.seq = .completed ∧ (i.functionCode = 0x01#8 ∨ i.functionCode = 0x02#8) := by
  cases m with
  | bits _ _ hf _ => exact ⟨rfl, hf⟩
  | _ => simp [buildAdu_eq, enterLoop, pollAppend_eq, checkCrc_eq] at h

theorem EngineMove.rregs {i : Instr} {s t : State} (m : EngineMove i s t) (h : t.rregs ≠ s.rregs) :
    t.seq = .completed ∧ (i.functionCode = 0x03#8 ∨ i.functionCode = 0x04#8) := by
  cases m with
  | regs _ _ hf _ => exact ⟨rfl, hf⟩
  | _ => simp [buildAdu_eq, enterLoop, pollAppend_eq, checkCrc_eq] at h

theorem go_windows (x : Operands) (p : Except Err (List Byte)) (s : State) :
    (go x p s).rbits = s.rbits ∧ (go x p s).rregs = s.rregs := by cases p <;> exact ⟨rfl, rfl⟩

/-- Settles O46: of the moves only the two read completions write a result window. -/
theorem resultWindowsAreWrittenOnlyByReads : Obligations.ResultWindowsAreWrittenOnlyByReads := by
  intro i s
  obtain ⟨t, ht, ⟨-, rfl⟩ | m⟩ := exec_cases i s
  · obtain ⟨hb, hr⟩ := go_windows (callOperands i s.operands) (encodeRule s.cfg i) s
    exact ⟨_, ht, fun h => absurd hb h, fun h => absurd hr h⟩
  · exact ⟨t, ht, m.rbits, m.rregs⟩

/-! ### Into `Failed` (R190 to R199) -/

/-- The validator raises every error but `InvalidParameter` (R161 to R167, R191). -/
theorem validate_error_ne {b : List Byte} {txn : Txn} {e : Err} (h : validate b txn = .error e) : e ≠ .invalidParameter := by
  unfold validate at h
  split_ifs at h <;> injection h with h <;> subst h <;> simp

theorem Err.code_eq_invalidParameter {e : Err} (h : e.code = .invalidParameter) : e = .invalidParameter := by
  cases e <;> simp_all [Err.code]

/-- A running transaction fails from `Validating` only, by one of the five errors of R192 to R199. -/
theorem EngineMove.failed {i : Instr} {s t : State} (m : EngineMove i s t) (hb : s.busy = true) (hf : t.seq = .failed) :
    (∃ k, s.seq = .validating k) ∧ ∃ c e, e ≠ .invalidParameter ∧ t = State.raise e { s with crc := c } := by
  cases m with
  | stay => simp [State.busy, hf, Seq.busy] at hb
  | reject e hq hv => exact ⟨⟨_, hq⟩, _, e, validate_error_ne hv, by rw [checkCrc_eq]⟩
  | badLength p hq hc => exact ⟨⟨_, hq⟩, s.crc, .unexpectedLength, by simp, rfl⟩
  | _ => simp [buildAdu_eq, enterLoop] at hf

theorem agenda_of_headD {ag : List Turn} {u : Turn} (h : ag.headD .engine = u) (hu : u ≠ .engine) : ∃ rest, ag = u :: rest := by
  cases ag with
  | nil => exact absurd h.symm hu
  | cons v rest => exact ⟨rest, by rw [← h]; rfl⟩

/-- Settles O43: `raise` is what leads to `Failed`, at a rejected GO or from `Validating`. -/
theorem failedIsEnteredOnlyByRaise : Obligations.FailedIsEnteredOnlyByRaise := by
  intro s t h hne hfail
  obtain ⟨ag, e⟩ := step_effect h
  cases e with
  | engine i _ hb _ m =>
    obtain ⟨⟨k, hk⟩, c, e, he, rfl⟩ := m.failed hb hfail
    exact ⟨rfl, rfl, rfl, rfl, rfl, rfl, .inr ⟨k, hk, e.code_ne_none, fun hc => he (Err.code_eq_invalidParameter hc),
      Err.info_of_code⟩⟩
  | go v x p hu hv hb _ rejected ht =>
    subst ht
    cases p with
    | ok pdu => simp [go_ok] at hfail
    | error e =>
      obtain rfl := rejected e rfl
      obtain ⟨rest, ha⟩ := agenda_of_headD hu (by simp)
      exact ⟨rfl, rfl, rfl, rfl, rfl, rfl, .inl ⟨hb, rfl, rfl, v, rest, hv, ha⟩⟩
  | boot a c _ _ ht => simp [ht, resetEngine_seq] at hfail
  | outside k =>
    rw [k.txn, ← show t.seq = s.seq from k.seq, hfail] at hne
    exact absurd hne (by simp)

/-! ### From GO to the drain -/

/-- A loaded call is the operation that GO fetches (R75). -/
theorem fetchCommand_loadCall {i : Instr} (g : Bool) {s : State} (hc : Memory.wf s.wcoil = true) (hr : Memory.wf s.wreg = true)
    (hmc : Memory.wf s.written.wcoil = true) (hmr : Memory.wf s.written.wreg = true) (hwf : i.wf wmcCeiling = true) :
    (s.loadCall i g).fetchCommand = some i := by
  cases i with
  | writeMultipleCoils sl a vs =>
    have hl : (BitVec.ofNat 16 vs.length).toNat = vs.length := by
      have := ((wf_writeMultipleCoils _ _ _ _).1 hwf).2.trans (show wmcCeiling ≤ 1968 from le_refl _)
      rw [BitVec.toNat_ofNat]; omega
    have hv : (s.loadCall (.writeMultipleCoils sl a vs) g).coils vs.length = vs :=
      (State.coils_written fun k hk => read_marks vs hmc hk).trans (Memory.readList_writeList 0 vs hc)
    show some (Instr.writeMultipleCoils sl a ((s.loadCall (.writeMultipleCoils sl a vs) g).coils _)) = _
    rw [show (s.loadCall (.writeMultipleCoils sl a vs) g).operands.qty.toNat = vs.length from hl, hv]
  | writeMultipleRegisters sl a vs =>
    have hl : (BitVec.ofNat 16 vs.length).toNat = vs.length := by
      have := ((wf_writeMultipleRegisters _ _ _ _).1 hwf).2
      rw [BitVec.toNat_ofNat]; omega
    have hv : (s.loadCall (.writeMultipleRegisters sl a vs) g).regs vs.length = vs :=
      (State.regs_written fun k hk => read_marks vs hmr hk).trans (Memory.readList_writeList 0 vs hr)
    show some (Instr.writeMultipleRegisters sl a ((s.loadCall (.writeMultipleRegisters sl a vs) g).regs _)) = _
    rw [show (s.loadCall (.writeMultipleRegisters sl a vs) g).operands.qty.toNat = vs.length from hl, hv]
  | _ => rfl

theorem step_of_agenda {s : State} {u : Turn} {rest : List Turn} (h : s.agenda = u :: rest) :
    step s = takeTurn u { s with agenda := rest } := by simp only [step, h]

theorem step_alone {s : State} (h : s.agenda = []) : step s = engineTurn s := by simp only [step, h]

theorem hostTurn_go {s : State} {v : Word} (hv : v.getLsbD 0 = true) : hostTurn (.writeReg 8 v) s = goTurn s := by
  simp [hostTurn, regExists, ctrlReg, hv]

theorem goTurn_rest {s : State} {i : Instr} (hb : s.busy = false) (hf : s.fetchCommand = some i) : goTurn s = exec i s := by
  simp [goTurn, hb, hf]

theorem engineTurn_running {s : State} {i : Instr} (hb : s.busy = true) (hf : s.fetchTxn = some i) :
    engineTurn s = exec i s := by simp [engineTurn, hb, hf]

theorem engineTurn_rest {s : State} (hb : s.busy = false) : engineTurn s = .next s := by simp [engineTurn, hb]

/-- A step of a running transaction with no turn pending. -/
theorem step_running {s : State} {i : Instr} (ha : s.agenda = []) (hb : s.busy = true) (hf : s.fetchTxn = some i) :
    step s = .next (advance (decodeRule i) s) := by
  rw [step_alone ha, engineTurn_running hb hf, exec_own hb (fetchTxn_functionCode hf)]

theorem busy_of_sending {s : State} {k : SendStep} (hq : s.seq = .sending k) : s.busy = true := by rw [State.busy, hq]; rfl

/-- The host's GO at rest, of the operation in the operand registers (R15, R171). -/
theorem step_go {s : State} {i : Instr} {v : Word} {rest : List Turn} (ha : s.agenda = .host (.writeReg 8 v) :: rest)
    (hv : v.getLsbD 0 = true) (hb : s.busy = false) (hf : s.fetchCommand = some i) :
    step s = .next (go (callOperands i s.operands) (encodeRule s.cfg i) { s with agenda := rest }) := by
  rw [step_of_agenda ha, takeTurn, hostTurn_go hv]
  exact (goTurn_rest (s := { s with agenda := rest }) hb hf).trans (exec_rest hb)

/-- The build of the ADU with no turn pending (R131). -/
theorem step_build {s : State} {i : Instr} {pdu : List Byte} (ha : s.agenda = []) (hq : s.seq = .sending (.build pdu))
    (hf : s.fetchTxn = some i) : step s = .next (buildAdu pdu s) := by
  rw [step_running ha (busy_of_sending hq) hf]
  simp only [advance, hq, sendStep]

/-- The drain with no turn pending (R132). -/
theorem step_drain {s : State} {i : Instr} (ha : s.agenda = []) (hq : s.seq = .sending .drain) (hf : s.fetchTxn = some i) :
    step s = .next (s.serFlush.goto (.sending (if s.cfg.dePresent then .assertDe else .write))) := by
  rw [step_running ha (busy_of_sending hq) hf]
  simp only [advance, hq, sendStep]

theorem run_succ {s t : State} (h : step s = .next t) (k : Nat) : Host.Core.run core (k + 1) s = Host.Core.run core k t := by
  simp only [Host.Core.run, show core.step s = .next t from h]

/-- The state after GO of an accepted operation and the build (R131, R171). -/
def State.builtFor (i : Instr) (pdu : List Byte) (s : State) : State :=
  buildAdu pdu (go (callOperands i s.operands) (.ok pdu) { s with agenda := [] })

/-- GO of an accepted operation, the build and the drain (R131, R132, R171). -/
theorem run_go_build_drain {s : State} {i : Instr} {pdu : List Byte} (ha : s.agenda = [.host (.writeReg 8 1#16)])
    (hb : s.busy = false) (hf : s.fetchCommand = some i) (hp : encodeRule s.cfg i = .ok pdu) :
    Host.Core.run core 3 s =
      .next ((s.builtFor i pdu).serFlush.goto (.sending (if s.cfg.dePresent then .assertDe else .write))) := by
  have fetched := fetchTxn_latch hf (.sending (.build pdu)) .none 0#8 false 0#16
  have started : step s = .next (go (callOperands i s.operands) (.ok pdu) { s with agenda := [] }) := by
    rw [step_go ha rfl hb hf, hp]
  have built : step (go (callOperands i s.operands) (.ok pdu) { s with agenda := [] }) = .next (s.builtFor i pdu) :=
    step_build rfl rfl fetched
  have drained : step (s.builtFor i pdu) =
      .next ((s.builtFor i pdu).serFlush.goto (.sending (if s.cfg.dePresent then .assertDe else .write))) := by
    rw [State.builtFor, buildAdu_eq]
    exact step_drain rfl rfl ((State.fetchTxn_congr rfl rfl rfl rfl rfl).trans fetched)
  exact (run_succ started 2).trans ((run_succ built 1).trans (run_succ drained 0))

/-- What `SER.RXQ` held before is nowhere in the state after the drain (R33, R52). -/
theorem builtFor_serFlush_rxq (i : Instr) (pdu : List Byte) (stale : List Byte) (s : State) :
    (State.builtFor i pdu { s with rxq := stale }).serFlush = (s.builtFor i pdu).serFlush := by
  rw [State.builtFor, State.builtFor, buildAdu_eq, buildAdu_eq]
  rfl

/-- Settles O42: GO, the build and the drain end in the same state whatever `SER.RXQ` held. -/
theorem staleBytesMakeNoDifference : Obligations.StaleBytesMakeNoDifference := by
  intro s i g stale hb hwf hc hr hmc hmr hmax
  have hf := fetchCommand_loadCall g hc hr hmc hmr (wf_mono hmax hwf)
  have hp := encodeRule_of_wf hwf
  refine ⟨_, run_go_build_drain (s := { s.loadCall i g with agenda := [.host (.writeReg 8 1#16)] }) rfl hb hf hp, rfl, ?_⟩
  rw [← builtFor_serFlush_rxq i _ stale]
  exact run_go_build_drain (s := { s.loadCall i g with agenda := [.host (.writeReg 8 1#16)], rxq := stale }) rfl hb hf hp

end Sys2Proof.Machine
end

section
/-! PROOFS. O17, O47, O54 to O60: the fetch, the host's reads and writes, the environment, reset and construction, one turn each. -/

namespace Sys2Proof.Machine

open Sys2Proof

/-! ### The fetch (R61, R74, R212) -/

theorem knownFunction_functionCode (i : Instr) : knownFunction i.functionCode = true := by cases i <;> rfl

theorem knownFunction_iff (fc : Byte) : knownFunction fc = true ↔
    fc = 0x01#8 ∨ fc = 0x02#8 ∨ fc = 0x03#8 ∨ fc = 0x04#8 ∨ fc = 0x05#8 ∨ fc = 0x06#8 ∨ fc = 0x0F#8 ∨ fc = 0x10#8 := by
  simp only [knownFunction, Bool.or_eq_true, decide_eq_true_eq, or_assoc]

/-- A code outside the eight describes no operation, whatever else the registers hold (R72). -/
theorem decodeCommand_unknown {fc : Byte} (h : knownFunction fc = false) (sl : Byte) (a q v : Word) (cs : List Bool)
    (rs : List Word) : decodeCommand fc sl a q v cs rs = none := by
  cases hd : decodeCommand fc sl a q v cs rs with
  | none => rfl
  | some i =>
    rw [← decodeCommand_functionCode hd, knownFunction_functionCode] at h
    cases h

/-- Where every operand that GO reads is written, GO fetches what the host wrote (R212). -/
theorem fetchCommand_of_written {s : State} (h : ¬s.operandMissing) : s.fetchCommand =
    decodeCommand s.x.fc s.x.slave s.x.addr s.x.qty s.x.value (Memory.readList 0 s.x.qty.toNat s.wcoil)
      (Memory.readList 0 s.x.qty.toNat s.wreg) := by
  simp only [State.operandMissing, not_or, not_and, not_exists, Bool.not_eq_false] at h
  obtain ⟨hfc, hhead, hqty, hval, -, hcoils, hregs⟩ := h
  rw [State.fetchCommand, State.operands_fc hfc]
  cases hk : knownFunction s.x.fc with
  | false => rw [decodeCommand_unknown hk, decodeCommand_unknown hk]
  | true =>
    obtain ⟨hsl, had⟩ := hhead hk
    rw [State.operands_slave hsl, State.operands_addr had]
    obtain e | e | e | e | e | e | e | e := (knownFunction_iff _).1 hk
    · rw [State.operands_qty (hqty hk (by simp [e]) (by simp [e])), e]; rfl
    · rw [State.operands_qty (hqty hk (by simp [e]) (by simp [e])), e]; rfl
    · rw [State.operands_qty (hqty hk (by simp [e]) (by simp [e])), e]; rfl
    · rw [State.operands_qty (hqty hk (by simp [e]) (by simp [e])), e]; rfl
    · rw [State.operands_value (hval (.inl e)), e]; rfl
    · rw [State.operands_value (hval (.inr e)), e]; rfl
    · rw [State.operands_qty (hqty hk (by simp [e]) (by simp [e])), State.coils_written (hcoils e), e]; rfl
    · rw [State.operands_qty (hqty hk (by simp [e]) (by simp [e])), State.regs_written (hregs e), e]; rfl

/-- No GO ends in a fault or a refusal (R190, log 33). -/
theorem goTurn_next (s : State) : ∃ t, goTurn s = .next t := by
  obtain ⟨-, h⟩ | ⟨i, -, -, h⟩ | ⟨-, -, h⟩ := goTurn_cases s <;> rw [h]
  · exact ⟨_, rfl⟩
  · exact exec_next i s
  · exact ⟨_, rfl⟩

theorem step_host {s : State} {a : HostAct} {rest : List Turn} (h : s.agenda = .host a :: rest) :
    step s = hostTurn a { s with agenda := rest } := step_of_agenda h

theorem step_engine {s : State} {rest : List Turn} (h : s.agenda = .engine :: rest) :
    step s = engineTurn { s with agenda := rest } := step_of_agenda h

/-- Settles O17: GO goes on to `exec` of what the registers describe, the engine's turn of what TXN describes. -/
theorem stepRunsTheFetchedOperation : Obligations.StepRunsTheFetchedOperation := by
  refine ⟨fun s rest v hb hv ha => ?_, fun s h => fetchCommand_of_written h, fun s rest i hb hf => ⟨fun ha => ?_, fun ha => ?_⟩,
    fun s rest hb => ⟨fun ha => ?_, fun ha => ?_⟩⟩
  · rw [step_host ha, hostTurn_go hv]
    exact ⟨fun i hf => goTurn_rest (s := { s with agenda := rest }) hb hf, goTurn_next _⟩
  · rw [step_engine ha]
    exact engineTurn_running (s := { s with agenda := rest }) hb hf
  · rw [step_alone ha, engineTurn_running hb hf]
  · rw [step_engine ha]
    exact engineTurn_rest (s := { s with agenda := rest }) hb
  · rw [step_alone ha, engineTurn_rest hb]

/-! ### Reset (R36, R210) -/

/-- Settles O47: at reset the engine rests, the line is quiet and every buffer lists nothing. -/
theorem resetMeetsTheInvariants : Obligations.ResetMeetsTheInvariants := by
  refine ⟨.of_rest rfl rfl, ?_, .of_lengths (Nat.zero_le _) (Nat.zero_le _) (fun _ h => nomatch h) rfl,
    .of_running (fun h => nomatch h) (fun h => nomatch h) rfl rfl rfl rfl, .of_not_inLoop rfl,
    ⟨⟨.quiet, rfl, List.mem_singleton.2 rfl⟩, rfl, fun h => nomatch h⟩, ?_⟩
  · constructor <;> exact ⟨rfl, rfl⟩
  · constructor <;> intros <;> rfl

theorem step_boot {s : State} {a : BootAct} {rest : List Turn} (h : s.agenda = .boot a :: rest) :
    step s = bootTurn a { s with agenda := rest } := step_of_agenda h

/-- Settles O60: reset and construction end in `resetEngine`, which only a record outside its bounds keeps from happening. -/
theorem resetAbandonsTheTransaction : Obligations.ResetAbandonsTheTransaction := by
  intro s rest c
  refine ⟨fun ha => ?_, fun ha hc => ?_, fun ha hc => ?_⟩ <;> rw [step_boot ha]
  · exact ⟨_, rfl, rfl, rfl, rfl, rfl, rfl, rfl, rfl, rfl, rfl, rfl, rfl⟩
  · rw [bootTurn, if_pos ((cfg_valid_iff c).2 hc)]
    exact ⟨_, rfl, rfl, rfl, rfl, rfl, rfl, rfl, rfl, rfl, rfl, rfl, rfl⟩
  · rw [bootTurn, if_neg (fun hv => hc ((cfg_valid_iff c).1 hv))]

/-! ### The environment (R22, R25, R27) -/

/-- Settles O59: each act of the environment is its one update of the port or of `NOW`. -/
theorem environmentTouchesOnlyThePort : Obligations.EnvironmentTouchesOnlyThePort := by
  intro s rest bs ms
  refine ⟨fun ha => ?_, fun ha => ?_, fun ha => ?_⟩ <;> rw [step_of_agenda ha] <;> rfl

/-! ### The host's accesses (R10 to R20) -/

theorem regExists_iff (n : Nat) : regExists n = true ↔ n ≤ 5 ∨ 8 ≤ n ∧ n ≤ 13 := by simp [regExists]

/-- A write to a register that exists, but for the GO strobe. -/
theorem hostTurn_writeReg {n : Nat} {v : Word} {s : State} (hn : regExists n = true) (hgo : ¬(n = 8 ∧ v.getLsbD 0 = true)) :
    hostTurn (.writeReg n v) s = .next (s.hostWriteReg n v) := by rw [hostTurn, if_pos hn, ctrlReg, if_neg hgo]

theorem hostTurn_readReg {n : Nat} {s : State} (hn : regExists n = true) : hostTurn (.readReg n) s = .next (s.hostReadReg n) :=
  if_pos hn

theorem hostTurn_writeElem {w : Window} {k : Nat} {v : Word} {s : State} (hk : k < s.windowCap w) :
    hostTurn (.writeElem w k v) s = .next (s.hostWriteElem w k v) := if_pos hk

theorem hostTurn_readElem {w : Window} {k : Nat} {s : State} (hk : k < s.windowCap w) :
    hostTurn (.readElem w k) s = .next (s.hostReadElem w k) := if_pos hk

/-- Settles O58: each access first asks whether its place exists. -/
theorem nonexistentPlacesStop : Obligations.NonexistentPlacesStop := by
  intro s rest n v w
  refine ⟨fun hn => ?_, fun hw => ?_⟩
  · rw [← regExists_iff] at hn
    exact ⟨fun ha => by rw [step_host ha, hostTurn, if_neg hn], fun ha => by rw [step_host ha, hostTurn, if_neg hn]⟩
  · have hk : ¬n < State.windowCap w { s with agenda := rest } := Nat.not_lt.2 hw
    exact ⟨fun ha => by rw [step_host ha, hostTurn, if_neg hk], fun ha => by rw [step_host ha, hostTurn, if_neg hk]⟩

/-- A host write to a register at rest (R10, R11). -/
theorem step_writeReg_rest {s : State} {n : Nat} {v : Word} {rest : List Turn} (hb : s.busy = false)
    (ha : s.agenda = .host (.writeReg n v) :: rest) (hn : n ≤ 5 ∨ 8 ≤ n ∧ n ≤ 13) (hgo : ¬(n = 8 ∧ v.getLsbD 0 = true)) :
    step s = .next { s with agenda := rest, x := s.x.write n v, written := s.written.markReg n } := by
  rw [step_host ha, hostTurn_writeReg ((regExists_iff n).2 hn) hgo, State.hostWriteReg, if_neg (by simpa using hb)]

/-- The registers from 6 on are no operand registers (R10). -/
theorem write_readOnly {n : Nat} (h : 6 ≤ n) (v : Word) (x : Operands) (w : Written) : x.write n v = x ∧ w.markReg n = w := by
  obtain ⟨m, rfl⟩ := Nat.exists_eq_add_of_le' h
  exact ⟨rfl, rfl⟩

/-- A host write to CTRL with bit 0 clear or to a read-only register changes nothing (R15, U13). -/
theorem step_writeReg_ignored {s : State} {n : Nat} {v : Word} {rest : List Turn} (hb : s.busy = false)
    (ha : s.agenda = .host (.writeReg n v) :: rest) (hn : 8 ≤ n ∧ n ≤ 13) (hgo : ¬(n = 8 ∧ v.getLsbD 0 = true)) :
    step s = .next { s with agenda := rest } := by
  obtain ⟨hx, hw⟩ := write_readOnly (n := n) (by omega) v s.x s.written
  rw [step_writeReg_rest hb ha (.inr hn) hgo, hx, hw]

/-- Settles O56: a write at rest is `Operands.write` and its mark, and both ignore the registers from 6 on. -/
theorem hostWritesOperandRegisters : Obligations.HostWritesOperandRegisters := by
  intro s rest v hb
  refine ⟨?_, ?_, ?_, ?_, ?_, ?_,
    fun hv ha => step_writeReg_ignored hb ha (by omega) fun h => Bool.false_ne_true (hv.symm.trans h.2),
    fun n h9 h13 ha => step_writeReg_ignored hb ha (by omega) (by omega)⟩
  all_goals
    intro ha
    rw [step_writeReg_rest hb ha (by omega) (by omega)]
    rfl

/-- A host write to an element inside its window, at rest (R12). -/
theorem step_writeElem_rest {s : State} {w : Window} {k : Nat} {v : Word} {rest : List Turn} (hb : s.busy = false)
    (ha : s.agenda = .host (.writeElem w k v) :: rest) (hk : k < s.windowCap w) :
    step s = .next (State.writeWindow w k v { s with agenda := rest }) := by
  rw [step_host ha, hostTurn_writeElem (s := { s with agenda := rest }) hk, State.hostWriteElem, if_neg (by simpa using hb)]

/-- Settles O57: the write is one `Memory.write` into the window and one into its marks; result windows take none. -/
theorem hostWritesWindowElements : Obligations.HostWritesWindowElements := by
  intro s rest k v hb h
  refine ⟨fun hk ha => ?_, fun hk ha => ?_, fun hk ha => ?_, fun hk ha => ?_⟩ <;> rw [step_writeElem_rest hb ha hk]
  · exact ⟨_, rfl, rfl, Memory.read_write k _ h.wcoil.1, Memory.read_write k _ h.writtenCoils.1⟩
  · exact ⟨_, rfl, rfl, Memory.read_write k _ h.wreg.1, Memory.read_write k _ h.writtenRegs.1⟩
  · rfl
  · rfl

/-- A host read of a register whose content is defined (R182). -/
theorem step_readReg {s : State} {n : Nat} {v : Word} {rest : List Turn} (ha : s.agenda = .host (.readReg n) :: rest)
    (hn : regExists n = true) (hv : s.regContent n = some v) :
    step s = .next { s with agenda := rest, hostData := presentReg n v } := by
  rw [step_host ha, hostTurn_readReg hn, State.hostReadReg]
  rw [show State.regContent n { s with agenda := rest } = some v from hv]
  rfl

/-- A host read of an element whose content is defined (R13). -/
theorem step_readElem {s : State} {w : Window} {k : Nat} {v : Word} {rest : List Turn}
    (ha : s.agenda = .host (.readElem w k) :: rest) (hk : k < s.windowCap w) (hv : s.elemContent w k = some v) :
    step s = .next { s with agenda := rest, hostData := presentElem w s.txn.signed v } := by
  rw [step_host ha, hostTurn_readElem (s := { s with agenda := rest }) hk, State.hostReadElem]
  rw [show State.elemContent w k { s with agenda := rest } = some v from hv]
  rfl

/-- The three fields of STATUS do not meet, so their sum is read back whole (R16). -/
theorem presentReg_status (s : State) : presentReg 9 (s.status.setWidth 16) =
    (s.seq.code : Int) + (if s.busy = true then 8 else 0) + (if s.done = true then 16 else 0) := by
  cases hq : s.seq <;>
    simp [State.status, State.busy, State.done, hq, Seq.code, Seq.busy, Seq.done, presentReg, regWidth]

/-- Settles O54: STATUS is defined at any time. -/
theorem hostReadsStatus : Obligations.HostReadsStatus := by
  intro s rest ha
  refine ⟨?_, ?_, ?_⟩
  · rw [step_readReg ha rfl rfl, presentReg_status]
  · cases hq : s.seq <;> simp [State.busy, hq, Seq.busy, Seq.code]
  · cases hq : s.seq <;> simp [State.done, hq, Seq.done, Seq.code]

theorem resultReadable_iff (s : State) : s.seq.resultReadable = true ↔ s.done = true ∨ s.seq = .idle := by
  simp [Seq.resultReadable, State.done]

theorem presentReg_rErr (e : ErrCode) : presentReg 10 (BitVec.ofNat 16 e.number) = e.number := by cases e <;> rfl

theorem presentReg_rExc (b : Byte) : presentReg 11 (b.setWidth 16) = b.toNat := by
  rw [presentReg, BitVec.toNat_setWidth_of_le (by decide)]
  exact Int.emod_eq_of_lt (Int.natCast_nonneg _) (Int.ofNat_lt.2 b.isLt)

theorem presentReg_rAck (a : Bool) : presentReg 12 (wordOfBit a) = a.toNat := by cases a <;> rfl

theorem presentReg_rCount (v : Word) : presentReg 13 v = v.toNat :=
  Int.emod_eq_of_lt (Int.natCast_nonneg _) (Int.ofNat_lt.2 v.isLt)

theorem presentElem_rbits (g b : Bool) : presentElem .rbits g (wordOfBit b) = if b = true then 1 else 0 := by cases b <;> rfl

theorem isResult_rbits {s : State} {j : Nat} (hq : s.seq = .completed) (hj : j < s.rCount.toNat)
    (hf : s.txn.fc = 0x01#8 ∨ s.txn.fc = 0x02#8) : s.isResult .rbits j = true := by
  simp [State.isResult, hq, hj, hf]

theorem isResult_rregs {s : State} {j : Nat} (hq : s.seq = .completed) (hj : j < s.rCount.toNat)
    (hf : s.txn.fc = 0x03#8 ∨ s.txn.fc = 0x04#8) : s.isResult .rregs j = true := by
  simp [State.isResult, hq, hj, hf]

/-- What a host read leaves alone, its value defined or not (R34, R47, log 13). -/
theorem deliver_frame (c : Option Word) (d : Int) (s : State) :
    s.deliver c d = { s with hostData := (s.deliver c d).hostData, freeCount := (s.deliver c d).freeCount } ∧
    ((s.deliver c d).freeCount = s.freeCount ∨ (s.deliver c d).freeCount = s.freeCount + 1) := by
  cases c with
  | none => exact ⟨rfl, .inr rfl⟩
  | some v => exact ⟨rfl, .inl rfl⟩

/-- Settles O55: the registers and elements whose content is defined, and the frame of every host read. -/
theorem hostReadsResultRegisters : Obligations.HostReadsResultRegisters := by
  intro s rest
  refine ⟨fun ha => ?_, fun hd => ?_, fun hd ha => ?_, fun j hq hj hcap hf ha => ?_, fun j hq hj hcap hf ha => ?_,
    fun n hn ha => ?_, fun w j hj ha => ?_⟩
  · exact step_readReg ha rfl rfl
  · have hr := (resultReadable_iff s).2 hd
    refine ⟨fun ha => ?_, fun ha => ?_, fun ha => ?_⟩
    · rw [step_readReg ha rfl (if_pos hr), presentReg_rErr]
    · rw [step_readReg ha rfl (if_pos hr), presentReg_rExc]
    · rw [step_readReg ha rfl (if_pos hr), presentReg_rAck]
  · rw [step_readReg ha rfl (if_pos hd), presentReg_rCount]
  · rw [step_readElem ha hcap (if_pos (isResult_rbits hq hj hf)), presentElem_rbits]
  · rw [step_readElem ha hcap (if_pos (isResult_rregs hq hj hf))]
    rfl
  · rw [step_host ha, hostTurn_readReg ((regExists_iff n).2 hn)]
    exact ⟨_, rfl, deliver_frame _ _ _⟩
  · rw [step_host ha, hostTurn_readElem (s := { s with agenda := rest }) hj]
    exact ⟨_, rfl, deliver_frame _ _ _⟩

end Sys2Proof.Machine
end

section
/-! PROOFS. O49: every step keeps the buffers in their canonical form and inside their arrays. -/

namespace Sys2Proof.Machine

open Sys2Proof

/-! ### One buffer (R40) -/

/-- A write inside the array keeps what `BufferInv` asks of one buffer. -/
theorem Memory.write_inBounds {α : Type} [Inhabited α] [DecidableEq α] {cap i : Nat} (v : α) {m : List (Nat × α)}
    (h : Memory.wf m = true ∧ Memory.within cap m = true) (hi : i < cap) :
    Memory.wf (Memory.write i v m) = true ∧ Memory.within cap (Memory.write i v m) = true :=
  ⟨Memory.write_wf i v h.1, Memory.write_within v h.2 hi⟩

/-- A write of a sequence inside the array keeps what `BufferInv` asks of one buffer. -/
theorem Memory.writeList_inBounds {α : Type} [Inhabited α] [DecidableEq α] {cap o : Nat} {vs : List α} {m : List (Nat × α)}
    (h : Memory.wf m = true ∧ Memory.within cap m = true) (hi : o + vs.length ≤ cap) :
    Memory.wf (Memory.writeList o vs m) = true ∧ Memory.within cap (Memory.writeList o vs m) = true :=
  ⟨Memory.writeList_wf o vs h.1, Memory.writeList_within h.2 hi⟩

/-! ### The buffers of a state -/

/-- The invariant speaks of the configuration, the windows with their marks, TXBUF and RXBUF alone. -/
theorem BufferInv.congr {s t : State} (h : BufferInv s) (hcfg : t.cfg = s.cfg)
    (hhost : t.wcoil = s.wcoil ∧ t.wreg = s.wreg ∧ t.written.wcoil = s.written.wcoil ∧ t.written.wreg = s.written.wreg)
    (hres : t.rbits = s.rbits ∧ t.rregs = s.rregs) (hline : t.txbuf = s.txbuf ∧ t.rxbuf = s.rxbuf) : BufferInv t := by
  obtain ⟨hc, hr, hmc, hmr⟩ := hhost
  obtain ⟨hb, hg⟩ := hres
  obtain ⟨ht, hx⟩ := hline
  constructor <;> simp only [hcfg, hc, hr, hmc, hmr, hb, hg, ht, hx]
  exacts [h.wcoil, h.wreg, h.writtenCoils, h.writtenRegs, h.rbits, h.rregs, h.txbuf, h.rxbuf]

theorem BufferInv.with_agenda {s : State} (h : BufferInv s) (ag : List Turn) : BufferInv { s with agenda := ag } :=
  h.congr rfl ⟨rfl, rfl, rfl, rfl⟩ ⟨rfl, rfl⟩ ⟨rfl, rfl⟩

/-- Reset and construction leave every buffer with nothing listed (R36, log 2), whatever the capacities. -/
theorem resetEngine_bufferInv (c : Cfg) (s : State) : BufferInv (s.resetEngine c) := by
  constructor <;> exact ⟨rfl, rfl⟩

/-- GO writes no buffer: the ADU goes into TXBUF at the build (R131, R171). -/
theorem go_bufferInv (x : Operands) (p : Except Err (List Byte)) {s : State} (h : BufferInv s) : BufferInv (go x p s) := by
  cases p <;> exact h.congr rfl ⟨rfl, rfl, rfl, rfl⟩ ⟨rfl, rfl⟩ ⟨rfl, rfl⟩

/-- A mark on an operand register leaves the marks of the windows alone (R212). -/
theorem markReg_windows (n : Nat) (w : Written) : (w.markReg n).wcoil = w.wcoil ∧ (w.markReg n).wreg = w.wreg := by
  unfold Written.markReg
  split <;> exact ⟨rfl, rfl⟩

/-- A host write to an element inside its window (R12, R40). -/
theorem writeWindow_bufferInv {w : Window} {k : Nat} (v : Word) {s : State} (h : BufferInv s) (hk : k < s.windowCap w) :
    BufferInv (s.writeWindow w k v) := by
  cases w with
  | wcoil =>
    exact { h with
      wcoil := Memory.write_inBounds _ h.wcoil hk
      writtenCoils := Memory.write_inBounds _ h.writtenCoils hk }
  | wreg =>
    exact { h with
      wreg := Memory.write_inBounds _ h.wreg hk
      writtenRegs := Memory.write_inBounds _ h.writtenRegs hk }
  | rbits => exact h
  | rregs => exact h

/-! ### The engine's writes -/

/-- A well-formed register read in TXN asks for at most 125 elements (R103, R104). -/
theorem qty_le_of_registerRead {s : State} {i : Instr} {m : Nat} (hf : s.fetchTxn = some i) (hwf : i.wf m = true)
    (hc : i.functionCode = 0x03#8 ∨ i.functionCode = 0x04#8) : s.txn.qty.toNat ≤ rregsCap := by
  unfold State.fetchTxn decodeCommand at hf
  split at hf <;> cases hf
  case h_3 => exact ((wf_readHoldingRegisters _ _ _ _).1 hwf).2
  case h_4 => exact ((wf_readInputRegisters _ _ _ _).1 hwf).2
  all_goals simp [Instr.functionCode] at hc

/-- The build writes TXBUF, a poll that found bytes RXBUF, and the end of a read its result window. `LengthInv` bounds the first two
(R28, R29), the quantity of a well-formed read the third (R101 to R104). -/
theorem EngineMove.bufferInv {i : Instr} {s t : State} (m : EngineMove i s t) (hb : s.busy = true) (hf : s.fetchTxn = some i)
    (hx : TxnInv s) (hl : LengthInv s) (h : BufferInv s) : BufferInv t := by
  obtain ⟨j, hj, hwf⟩ := hx.running hb
  obtain rfl : i = j := Option.some.inj (hf.symm.trans hj)
  cases m with
  | stay => exact h
  | build pdu hq =>
    obtain ⟨-, hlen⟩ := hl.pdu pdu hq
    have hadu : 0 + (frame (s.txn.slave :: pdu)).length ≤ txCap := by
      rw [frame_length, List.length_cons, txCap]
      omega
    rw [buildAdu_eq]
    exact { h with txbuf := Memory.writeList_inBounds h.txbuf hadu }
  | readEnd t | readWait t =>
    exact { h with rxbuf := Memory.writeList_inBounds h.rxbuf (pollAppend_rxlen_le hl.rxlen t) }
  | bits p _ hfc =>
    have hc : countPrefixed i.functionCode = true := by rcases hfc with e | e <;> rw [e] <;> rfl
    have hbits : 0 + (unpackBits p s.txn.qty.toNat).length ≤ rbitsCap := by
      rw [unpackBits_length, Nat.zero_add]
      exact qty_le_of_read hf hwf hc
    exact { h with rbits := Memory.writeList_inBounds h.rbits hbits }
  | regs p _ hfc =>
    have hregs : 0 + (unpackRegs p s.txn.qty.toNat).length ≤ rregsCap := by
      rw [unpackRegs_length, Nat.zero_add]
      exact qty_le_of_registerRead hf hwf hfc
    exact { h with rregs := Memory.writeList_inBounds h.rregs hregs }
  | _ => apply h.congr <;> simp [enterLoop, checkCrc_eq]

/-! ### Every move -/

/-- The engine, and the host in a window element, are all that write into a buffer (R12, R40). -/
theorem Move.bufferInv {s t : State} (m : Move s t) (hx : TxnInv s) (hl : LengthInv s) (h : BufferInv s) : BufferInv t := by
  cases m with
  | stay => exact h
  | engine i hb hf => exact (advance_move i s).bufferInv hb hf hx hl h
  | go i => exact go_bufferInv _ _ h
  | goUnknown => exact go_bufferInv s.operands (.error .invalidParameter) h
  | writeReg n v =>
    obtain ⟨hc, hr⟩ := markReg_windows n s.written
    exact h.congr rfl ⟨rfl, rfl, hc, hr⟩ ⟨rfl, rfl⟩ ⟨rfl, rfl⟩
  | writeElem w k v _ hk => exact writeWindow_bufferInv v h hk
  | reset => exact resetEngine_bufferInv _ s
  | construct c => exact resetEngine_bufferInv c s
  | read | receive | txDone | pass => exact h.congr rfl ⟨rfl, rfl, rfl, rfl⟩ ⟨rfl, rfl⟩ ⟨rfl, rfl⟩

/-- Settles O49: every write into a buffer is one of `EngineMove.bufferInv` or `writeWindow_bufferInv`. -/
theorem stepKeepsTheBuffersInBounds : Obligations.StepKeepsTheBuffersInBounds := by
  intro s t hx hl h hs
  obtain ⟨ag, m⟩ := step_move hs
  exact m.bufferInv (hx.with_agenda ag) (hl.with_agenda ag) (h.with_agenda ag)

end Sys2Proof.Machine
end

section
/-! PROOFS. The packing helpers undo each other: what GO packs, a decoder reads back, and nothing else packs to the same bytes
(R109, R110, R112, R114). -/

namespace Sys2Proof

/-! ### Bits (R109, R112) -/

theorem packByte_getLsbD (b : List Bool) (j k : Nat) (hk : k < 8) :
    (packByte b j).getLsbD k = b.getD (8 * j + k) false := by
  rw [packByte, BitVec.getLsbD_ofFnLE, dif_pos hk]

theorem byteAt_packBits (b : List Bool) {j : Nat} (hj : j < ceilDiv b.length 8) : byteAt (packBits b) j = packByte b j := by
  rw [byteAt, List.getD_eq_getElem _ _ (by simpa using hj)]
  simp [packBits]

theorem unpackBits_packBits (b : List Bool) : unpackBits (packBits b) b.length = b := by
  apply List.ext_getElem (unpackBits_length _ _)
  intro i _ hi
  have hj : i / 8 < ceilDiv b.length 8 := by rw [ceilDiv]; omega
  have hk : 8 * (i / 8) + i % 8 = i := Nat.div_add_mod i 8
  simp only [unpackBits, List.getElem_map, List.getElem_range]
  rw [byteAt_packBits b hj, packByte_getLsbD b _ _ (Nat.mod_lt i (by decide)), hk, List.getD_eq_getElem _ _ hi]

/-! ### Registers (R110, R114) -/

/-- The first register of a payload is its first two bytes. -/
theorem unpackRegs_cons (h l : Byte) (p : List Byte) (q : Nat) :
    unpackRegs (h :: l :: p) (q + 1) = ofHiLo h l :: unpackRegs p q := by
  simp only [unpackRegs, List.range_succ_eq_map, List.map_cons, List.map_map]
  exact congrArg _ (List.map_congr_left fun _ _ => rfl)

theorem packRegs_cons (w : Word) (v : List Word) : packRegs (w :: v) = hi8 w :: lo8 w :: packRegs v := rfl

theorem unpackRegs_packRegs (v : List Word) : unpackRegs (packRegs v) v.length = v := by
  induction v with
  | nil => rfl
  | cons w v ih => rw [packRegs_cons, List.length_cons, unpackRegs_cons, ofHiLo_hi8_lo8, ih]

/-- A payload of whole registers has no other reading. -/
theorem packRegs_unpackRegs {p : List Byte} {q : Nat} (hp : p.length = 2 * q) : packRegs (unpackRegs p q) = p := by
  induction q generalizing p with
  | zero => rw [List.length_eq_zero_iff.1 hp]; rfl
  | succ q ih =>
    match p, hp with
    | h :: l :: p, hp =>
      have hq : p.length = 2 * q := by simp only [List.length_cons] at hp; omega
      rw [unpackRegs_cons, packRegs_cons, hi8_ofHiLo, lo8_ofHiLo, ih hq]

end Sys2Proof
end

section
/-! PROOFS. O8, O9: the decoder of request frames accepts exactly what the encoder produces (R60 to R64, log 26). Each part of the
decoder is one equivalence between its answer and the bytes it was given. -/

namespace Sys2Proof

/-! ### The counted data of a multiple write (R63, R64) -/

theorem splitExact_append (d r : List Byte) : splitExact d.length (d ++ r) = some (d, r) := by
  induction d with
  | nil => rfl
  | cons b d ih => simp [splitExact, ih]

theorem splitExact_some {n : Nat} {s d r : List Byte} (h : splitExact n s = some (d, r)) : s = d ++ r ∧ d.length = n := by
  induction n generalizing s d with
  | zero => cases h; exact ⟨rfl, rfl⟩
  | succ n ih =>
    cases s with
    | nil => cases h
    | cons b s =>
      rw [splitExact] at h
      split at h
      · cases h
      · next d' r' hs =>
        cases h
        obtain ⟨rfl, rfl⟩ := ih hs
        exact ⟨rfl, rfl⟩

/-- The byte count is the one that the quantity implies, and fits its byte. -/
theorem decodeCounted_eq_ok {n : Nat} {s d r : List Byte} :
    decodeCounted n s = .ok (d, r) ↔ n < 256 ∧ d.length = n ∧ s = BitVec.ofNat 8 n :: (d ++ r) := by
  constructor
  · intro h
    cases s with
    | nil => cases h
    | cons c s =>
      rw [decodeCounted] at h
      split at h
      · cases h
      · next hc =>
        split at h
        · cases h
        · next hs =>
          cases h
          obtain ⟨rfl, hd⟩ := splitExact_some hs
          obtain rfl : c.toNat = n := not_not.1 hc
          exact ⟨c.isLt, hd, by rw [BitVec.ofNat_toNat, BitVec.setWidth_eq]⟩
  · rintro ⟨hn, rfl, rfl⟩
    have hc : (BitVec.ofNat 8 d.length).toNat = d.length := Nat.mod_eq_of_lt hn
    rw [decodeCounted, if_neg (not_not_intro hc), splitExact_append]

/-- Data bytes are accepted when they are the packing of what they are read as: the padding is 0 (R109). -/
theorem decodeCoilData_eq_ok {q : Nat} {d : List Byte} {vs : List Bool} :
    decodeCoilData q d = .ok vs ↔ vs.length = q ∧ d = packBits vs := by
  constructor
  · intro h
    rw [decodeCoilData] at h
    split at h
    · next hp =>
      cases h
      exact ⟨unpackBits_length _ _, hp.symm⟩
    · cases h
  · rintro ⟨rfl, rfl⟩
    rw [decodeCoilData, unpackBits_packBits, if_pos rfl]

/-! ### The PDU (R62 to R64) -/

theorem eq_ofNat_of_toNat {b : Byte} {n : Nat} (h : b.toNat = n) : b = BitVec.ofNat 8 n := by
  rw [← h, BitVec.ofNat_toNat, BitVec.setWidth_eq]

theorem decodePdu_fields (slave fc : Byte) (a v : Word) (s : List Byte) :
    decodePdu slave (fc :: (be16 a ++ be16 v ++ s)) = decodeFields slave fc a v s := by
  simp [decodePdu, be16]

/-- Slave address and PDU of a well-formed operation decode to it, whatever follows. -/
theorem decodePdu_encodeBody {i : Instr} (h : i.wf wmcCeiling = true) {slave : Byte} {pdu rest : List Byte}
    (hp : slave :: pdu = encodeBody i ++ rest) : decodePdu slave pdu = .ok (i, rest) := by
  cases i with
  | writeMultipleCoils sl a vs =>
    obtain ⟨-, hmax⟩ := (wf_writeMultipleCoils _ _ _ _).1 h
    rw [wmcCeiling] at hmax
    have hq : (BitVec.ofNat 16 vs.length).toNat = vs.length := Nat.mod_eq_of_lt (by omega)
    have hc : decodeCounted (ceilDiv vs.length 8) (BitVec.ofNat 8 (ceilDiv vs.length 8) :: (packBits vs ++ rest)) =
        .ok (packBits vs, rest) := decodeCounted_eq_ok.2 ⟨by rw [ceilDiv]; omega, packBits_length vs, rfl⟩
    have hd : decodeCoilData vs.length (packBits vs) = .ok vs := decodeCoilData_eq_ok.2 ⟨rfl, rfl⟩
    cases hp
    refine (decodePdu_fields _ 0x0F#8 a _ (_ :: (packBits vs ++ rest))).trans ?_
    simp [decodeFields, hq, hc, hd]
  | writeMultipleRegisters sl a vs =>
    obtain ⟨-, hmax⟩ := (wf_writeMultipleRegisters _ _ _ _).1 h
    have hq : (BitVec.ofNat 16 vs.length).toNat = vs.length := Nat.mod_eq_of_lt (by omega)
    have hc : decodeCounted (2 * vs.length) (BitVec.ofNat 8 (2 * vs.length) :: (packRegs vs ++ rest)) =
        .ok (packRegs vs, rest) := decodeCounted_eq_ok.2 ⟨by omega, packRegs_length vs, rfl⟩
    cases hp
    refine (decodePdu_fields _ 0x10#8 a _ (_ :: (packRegs vs ++ rest))).trans ?_
    simp [decodeFields, hq, hc, unpackRegs_packRegs]
  | _ =>
    cases hp
    exact decodePdu_fields _ _ _ _ rest

/-- Fields that decode are those of the operation they decode to. -/
theorem decodeFields_ok {slave fc : Byte} {a v : Word} {s rest : List Byte} {i : Instr}
    (h : decodeFields slave fc a v s = .ok (i, rest)) :
    slave :: fc :: (be16 a ++ be16 v ++ s) = encodeBody i ++ rest := by
  rw [decodeFields] at h
  split at h
  case h_7 e =>
    obtain rfl := eq_ofNat_of_toNat e
    split at h
    · cases h
    · next d r hd =>
      split at h
      · cases h
      · next vs hvs =>
        cases h
        obtain ⟨-, -, rfl⟩ := decodeCounted_eq_ok.1 hd
        obtain ⟨hq, rfl⟩ := decodeCoilData_eq_ok.1 hvs
        simp [encodeBody, hq]
  case h_8 e =>
    obtain rfl := eq_ofNat_of_toNat e
    split at h
    · cases h
    · next d r hd =>
      cases h
      obtain ⟨-, hlen, rfl⟩ := decodeCounted_eq_ok.1 hd
      simp [encodeBody, packRegs_unpackRegs hlen]
  case h_9 => cases h
  all_goals
    next e =>
    obtain rfl := eq_ofNat_of_toNat e
    cases h
    rfl

/-- A PDU that decodes is the one of the operation it decodes to. -/
theorem decodePdu_ok {slave : Byte} {pdu rest : List Byte} {i : Instr} (h : decodePdu slave pdu = .ok (i, rest)) :
    slave :: pdu = encodeBody i ++ rest := by
  unfold decodePdu at h
  split at h
  · simpa [be16] using decodeFields_ok h
  · split at h <;> cases h
  · cases h

/-! ### The frame (R60) -/

/-- Where the PDU decodes, the frame is accepted on its checksum, computed over slave address and PDU (R60). -/
theorem decode_of_decodePdu {slave l h : Byte} {pdu m rest : List Byte} {i : Instr}
    (hp : decodePdu slave pdu = .ok (i, l :: h :: rest)) (hm : slave :: pdu = m ++ l :: h :: rest) :
    decode (slave :: pdu) = if le16 (crc16 m) = [l, h] then .ok (i, rest) else .error .crcMismatch := by
  have hlen : pdu.length - 1 - rest.length = m.length := by
    have := congrArg List.length hm
    simp only [List.length_cons, List.length_append] at this
    omega
  simp only [decode, hp]
  rw [hlen, hm, List.take_left]

/-- A frame that decodes has a PDU that decodes, and two bytes after it. -/
theorem decode_ok_pdu {bytes rest : List Byte} {i : Instr} (h : decode bytes = .ok (i, rest)) :
    ∃ slave pdu l h, bytes = slave :: pdu ∧ decodePdu slave pdu = .ok (i, l :: h :: rest) := by
  unfold decode at h
  split at h
  · cases h
  · split at h
    · cases h
    · next hp =>
      simp only at h
      split at h
      · cases h
        exact ⟨_, _, _, _, rfl, hp⟩
      · cases h
    · cases h

/-- The checksum bytes of a frame stand between its body and what follows. -/
theorem encode_append (i : Instr) (rest : List Byte) :
    encode i ++ rest = encodeBody i ++ lo8 (crc16 (encodeBody i)) :: hi8 (crc16 (encodeBody i)) :: rest := by
  simp [encode, frame, le16]

/-- Settles O8: the body decodes back by `decodePdu_encodeBody`, and the checksum after it is the one that `decode` computes. -/
theorem requestsDecodeBack : Obligations.RequestsDecodeBack := by
  intro i rest hwf
  rw [encode_append]
  cases hb : encodeBody i ++ lo8 (crc16 (encodeBody i)) :: hi8 (crc16 (encodeBody i)) :: rest with
  | nil => simp at hb
  | cons slave pdu => rw [decode_of_decodePdu (decodePdu_encodeBody hwf hb.symm) hb.symm, le16, if_pos rfl]

/-- Settles O9: a PDU that decodes is the body of its operation, and the two bytes after it passed the check of the checksum. -/
theorem decodedBytesAreTheEncoding : Obligations.DecodedBytesAreTheEncoding := by
  intro bytes rest i hd
  obtain ⟨slave, pdu, l, h, rfl, hp⟩ := decode_ok_pdu hd
  have hb := decodePdu_ok hp
  rw [decode_of_decodePdu hp hb] at hd
  split at hd
  · next hcrc =>
    rw [hb, encode, frame, hcrc]
    simp
  · cases hd

/-- Settles O7: the frames of V3.1, V3.13, V3.14 and V3.22, and one whose code is none of the eight. -/
theorem requestWordsDecode : Obligations.RequestWordsDecode := by
  refine ⟨?_, ?_, ?_, ?_, ?_⟩ <;> decide

end Sys2Proof
end

section
/-! PROOFS. O15, O18: GO with an unknown function code, and the call that the host's writes load (R72, R75). -/

namespace Sys2Proof.Machine

open Sys2Proof

theorem goTurn_unknown {s : State} (hb : s.busy = false) (hf : s.fetchCommand = none) : goTurn s = .next (goUnknown s) := by
  simp [goTurn, hb, hf]

/-- Settles O15: a code outside the eight describes no operation, so that GO is `goUnknown`. -/
theorem goWithUnknownFunctionCode : Obligations.GoWithUnknownFunctionCode := by
  intro s rest v hb hk hv ha
  rw [step_host ha, hostTurn_go hv]
  exact goTurn_unknown (s := { s with agenda := rest }) hb (decodeCommand_unknown hk _ _ _ _ _ _)

/-! ### What a loaded call has written (R75, R212) -/

/-- A call writes every operand that its GO reads. -/
theorem loadCall_not_missing {s : State} (hc : Memory.wf s.written.wcoil = true) (hr : Memory.wf s.written.wreg = true)
    (i : Instr) (g : Bool) : ¬(s.loadCall i g).operandMissing := by
  have hq : ∀ n, (BitVec.ofNat 16 n).toNat ≤ n := fun n => Nat.mod_le n _
  unfold State.operandMissing
  cases i with
  | writeMultipleCoils sl a vs =>
    simpa [State.loadCall, callMarks, callOperands] using fun k hk => read_marks vs hc (hk.trans_le (hq _))
  | writeMultipleRegisters sl a vs =>
    simpa [State.loadCall, callMarks, callOperands] using fun k hk => read_marks vs hr (hk.trans_le (hq _))
  | _ => simp [State.loadCall, callMarks, callOperands]

/-! ### The call as turns of the host (R75) -/

/-- What the host's write does at rest: the register or the element, and its mark (R10 to R12, R212). -/
def hostWrite (s : State) : HostAct → State
  | .writeReg n v => { s with x := s.x.write n v, written := s.written.markReg n }
  | .writeElem w k v => s.writeWindow w k v
  | _ => s

/-- The writes that a call is made of: operand registers, and elements inside their window (R75). -/
def HostAct.isCallWrite (s : State) : HostAct → Prop
  | .writeReg n _ => n ≤ 5
  | .writeElem w k _ => k < s.windowCap w
  | _ => False

/-- A write leaves the engine at rest under its configuration. -/
theorem hostWrite_frame (s : State) (a : HostAct) : (hostWrite s a).seq = s.seq ∧ (hostWrite s a).cfg = s.cfg := by
  cases a with
  | writeElem w k v => cases w <;> exact ⟨rfl, rfl⟩
  | _ => exact ⟨rfl, rfl⟩

/-- A write does not look at the turns to come (log 5). -/
theorem hostWrite_agenda (s : State) (a : HostAct) (ag : List Turn) :
    hostWrite { s with agenda := ag } a = { hostWrite s a with agenda := ag } := by
  cases a with
  | writeElem w k v => cases w <;> rfl
  | _ => rfl

theorem isCallWrite_congr {s t : State} (h : t.cfg = s.cfg) {a : HostAct} (ha : a.isCallWrite s) : a.isCallWrite t := by
  cases a with
  | writeElem w k v =>
    cases w with
    | wcoil => exact Nat.lt_of_lt_of_eq ha (congrArg Cfg.wmcQtyMax h).symm
    | _ => exact ha
  | _ => exact ha

theorem step_callWrite {s : State} {a : HostAct} (hb : s.busy = false) (ha : a.isCallWrite s) (rest : List Turn) :
    step { s with agenda := .host a :: rest } = .next { hostWrite s a with agenda := rest } := by
  rw [← hostWrite_agenda]
  cases a with
  | writeReg n v =>
    have hn : n ≤ 5 := ha
    exact step_writeReg_rest (s := { s with agenda := .host (.writeReg n v) :: rest }) hb rfl (.inl hn) (by omega)
  | writeElem w k v => exact step_writeElem_rest (s := { s with agenda := .host (.writeElem w k v) :: rest }) hb rfl ha
  | _ => exact ha.elim

/-- Writes at rest, taken as turns, are done one after another. -/
theorem run_callWrites (acts : List HostAct) {s : State} (hb : s.busy = false) (ha : ∀ a ∈ acts, a.isCallWrite s) :
    Host.Core.run core acts.length { s with agenda := acts.map Turn.host } =
      .next { acts.foldl hostWrite s with agenda := [] } := by
  induction acts generalizing s with
  | nil => rfl
  | cons a acts ih =>
    obtain ⟨ha, hacts⟩ := List.forall_mem_cons.1 ha
    obtain ⟨hseq, hcfg⟩ := hostWrite_frame s a
    refine (run_succ (step_callWrite hb ha (acts.map Turn.host)) acts.length).trans ?_
    exact ih (by rw [State.busy, hseq]; exact hb) fun b hm => isCallWrite_congr hcfg (hacts b hm)

theorem lo8_setWidth (b : Byte) : lo8 (b.setWidth 16) = b := by
  apply BitVec.eq_of_toNat_eq
  rw [lo8_toNat, BitVec.toNat_setWidth_of_le (by decide)]
  exact Nat.mod_eq_of_lt b.isLt

theorem wordOfBit_getLsbD (b : Bool) : (wordOfBit b).getLsbD 0 = b := by cases b <;> rfl

/-- A list written to WCOIL one element a turn (R12). -/
theorem foldl_elemWrites_wcoil (k : Nat) (vs : List Bool) (s : State) :
    (elemWrites .wcoil k (vs.map wordOfBit)).foldl hostWrite s =
      { s with wcoil := Memory.writeList k vs s.wcoil
               written := { s.written with wcoil := Memory.writeList k (vs.map fun _ => true) s.written.wcoil } } := by
  induction vs generalizing k s with
  | nil => rfl
  | cons v vs ih =>
    simp only [List.map_cons, elemWrites, List.foldl_cons, ih, hostWrite, State.writeWindow, bitOfWord, wordOfBit_getLsbD,
      Memory.writeList]

/-- A list written to WREG one element a turn (R12). -/
theorem foldl_elemWrites_wreg (k : Nat) (vs : List Word) (s : State) :
    (elemWrites .wreg k vs).foldl hostWrite s =
      { s with wreg := Memory.writeList k vs s.wreg
               written := { s.written with wreg := Memory.writeList k (vs.map fun _ => true) s.written.wreg } } := by
  induction vs generalizing k s with
  | nil => rfl
  | cons v vs ih => simp only [List.map_cons, elemWrites, List.foldl_cons, ih, hostWrite, State.writeWindow, Memory.writeList]

/-- The writes of a call load it (R75). -/
theorem foldl_callWrites (i : Instr) (g : Bool) (s : State) : (callWrites i g).foldl hostWrite s = s.loadCall i g := by
  cases i with
  | writeMultipleCoils sl a vs =>
    simp only [callWrites, List.foldl_append, foldl_elemWrites_wcoil, List.foldl_cons, List.foldl_nil, hostWrite, Operands.write,
      lo8_setWidth]
    rfl
  | writeMultipleRegisters sl a vs =>
    simp only [callWrites, List.foldl_append, foldl_elemWrites_wreg, List.foldl_cons, List.foldl_nil, hostWrite, Operands.write,
      lo8_setWidth]
    rfl
  | _ =>
    simp only [callWrites, List.foldl_cons, List.foldl_nil, hostWrite, Operands.write, lo8_setWidth, wordOfBit_getLsbD]
    rfl

theorem mem_elemWrites {w : Window} {k : Nat} {vs : List Word} {a : HostAct} (h : a ∈ elemWrites w k vs) :
    ∃ j v, a = .writeElem w j v ∧ j < k + vs.length := by
  induction vs generalizing k with
  | nil => cases h
  | cons v vs ih =>
    rw [List.length_cons]
    obtain rfl | h := List.mem_cons.1 h
    · exact ⟨k, v, rfl, by omega⟩
    · obtain ⟨j, u, rfl, hj⟩ := ih h
      exact ⟨j, u, rfl, by omega⟩

/-- A list that fits its window is written inside it. -/
theorem elemWrites_isCallWrite {w : Window} {vs : List Word} {s : State} (h : vs.length ≤ s.windowCap w) :
    ∀ a ∈ elemWrites w 0 vs, a.isCallWrite s := by
  intro a ha
  obtain ⟨j, v, rfl, hj⟩ := mem_elemWrites ha
  exact Nat.lt_of_lt_of_le (by omega) h

/-- A well-formed call writes operand registers and elements that exist (R10, R12, R107, R108). -/
theorem callWrites_isCallWrite {i : Instr} {s : State} (hwf : i.wf s.cfg.wmcQtyMax = true) (g : Bool) :
    ∀ a ∈ callWrites i g, a.isCallWrite s := by
  cases i with
  | writeMultipleCoils sl a vs =>
    have hl : (vs.map wordOfBit).length ≤ s.windowCap .wcoil := by
      rw [List.length_map]
      exact ((wf_writeMultipleCoils _ _ _ _).1 hwf).2
    simpa [callWrites, HostAct.isCallWrite, or_imp, forall_and] using elemWrites_isCallWrite hl
  | writeMultipleRegisters sl a vs =>
    have hl : vs.length ≤ s.windowCap .wreg := ((wf_writeMultipleRegisters _ _ _ _).1 hwf).2
    simpa [callWrites, HostAct.isCallWrite, or_imp, forall_and] using elemWrites_isCallWrite hl
  | _ => simp [callWrites, HostAct.isCallWrite]

/-- Settles O18: a loaded call misses nothing, so GO fetches what it wrote; and the host's writes add up to the load. -/
theorem loadedCallIsFetched : Obligations.LoadedCallIsFetched := by
  refine ⟨fun i g s hc hr hmc hmr hwf => fetchCommand_loadCall g hc hr hmc hmr hwf,
    fun i g s hb _ h hwf => ⟨loadCall_not_missing h.writtenCoils.1 h.writtenRegs.1 i g, ?_, ?_, ?_⟩⟩
  · rintro sl a q (rfl | rfl) <;> rfl
  · intro hi
    cases i with
    | readHoldingRegisters sl a q => exact absurd rfl (hi sl a q).1
    | readInputRegisters sl a q => exact absurd rfl (hi sl a q).2
    | _ => rfl
  · rw [run_callWrites _ hb (callWrites_isCallWrite hwf g), foldl_callWrites]

end Sys2Proof.Machine
end

section
/-! PROOFS. O1, O2, O3: the CRC unit. The printed table is its construction (R92), the table form of an update is the
bit-serial form (R91, R93), and a message followed by its own checksum has checksum 0 (R97). -/

namespace Sys2Proof

/-! ### The shift step -/

/-- A shift step without its branch: the polynomial enters as the choice between itself and 0. -/
theorem crcShift_eq (c : Word) : crcShift c = (c >>> 1) ^^^ (if c.getLsbD 0 then 0xA001#16 else 0#16) := by
  unfold crcShift
  split <;> simp

/-- A shift step is linear over exclusive or: so is the choice of the polynomial by the low bit. -/
theorem crcShift_xor (a b : Word) : crcShift (a ^^^ b) = crcShift a ^^^ crcShift b := by
  have hpoly (p q : Bool) : (if p ^^ q then 0xA001#16 else 0#16) =
      (if p then 0xA001#16 else 0#16) ^^^ (if q then 0xA001#16 else 0#16) := by
    cases p <;> cases q <;> rfl
  simp only [crcShift_eq, BitVec.ushiftRight_xor_distrib, BitVec.getLsbD_xor, hpoly]
  ac_rfl

theorem crcShift8_xor (a b : Word) : crcShift8 (a ^^^ b) = crcShift8 a ^^^ crcShift8 b := by
  simp only [crcShift8, crcShift_xor]

/-- The polynomial does not enter a shift step of an even value: it halves. -/
theorem crcShift_toNat_of_even {c : Word} {n : Nat} (h : c.toNat = 2 * n) : (crcShift c).toNat = n := by
  have hbit : c.getLsbD 0 = false := by simp [BitVec.getLsbD, h]
  rw [crcShift, hbit, if_neg Bool.false_ne_true, BitVec.toNat_ushiftRight, Nat.shiftRight_eq_div_pow]
  omega

/-- A value whose low byte is 0 is shifted down whole: no step meets the polynomial. -/
theorem crcShift8_ofHiLo_zero (h : Byte) : crcShift8 (ofHiLo h 0#8) = h.setWidth 16 := by
  apply BitVec.eq_of_toNat_eq
  unfold crcShift8
  iterate 8 apply crcShift_toNat_of_even
  rw [ofHiLo_toNat, BitVec.toNat_setWidth, BitVec.toNat_zero]
  omega

/-! ### The table (R92) -/

/-- The entries that the construction of R92 generates for the indexes from `k` on, `n` of them. -/
def generatedEntries (k n : Nat) : List Word := (List.range' k n).map fun i => crcShift8 (BitVec.ofNat 16 i)

theorem generatedEntries_append (k m n : Nat) :
    generatedEntries k m ++ generatedEntries (k + m) n = generatedEntries k (m + n) := by
  simp [generatedEntries, ← List.map_append, List.range'_append_1]

/-- The 256 printed constants, in the eight groups of rows in which they are printed (R92). -/
theorem crcTable_eq_generatedEntries : crcTable = generatedEntries 0 256 := by
  have h0 : crcTable0 = generatedEntries 0 32 := by decide
  have h1 : crcTable1 = generatedEntries 32 32 := by decide
  have h2 : crcTable2 = generatedEntries 64 32 := by decide
  have h3 : crcTable3 = generatedEntries 96 32 := by decide
  have h4 : crcTable4 = generatedEntries 128 32 := by decide
  have h5 : crcTable5 = generatedEntries 160 32 := by decide
  have h6 : crcTable6 = generatedEntries 192 32 := by decide
  have h7 : crcTable7 = generatedEntries 224 32 := by decide
  simp only [crcTable, h0, h1, h2, h3, h4, h5, h6, h7, generatedEntries_append 0]

theorem crcTable_length : crcTable.length = 256 := by
  simp [crcTable_eq_generatedEntries, generatedEntries]

/-- An entry of the table is the result of eight shift steps on its index (R92). -/
theorem crcTableAt_eq (i : Byte) : crcTableAt i = crcShift8 (i.setWidth 16) := by
  have hi : i.toNat < 256 := i.isLt
  have hw : BitVec.ofNat 16 i.toNat = i.setWidth 16 := BitVec.eq_of_toNat_eq (by simp)
  simp [crcTableAt, crcTable_eq_generatedEntries, generatedEntries, hi, hw]

/-- Settles O1: the table is the list of generated entries. -/
theorem crcTableIsTheGeneratedTable : Obligations.CrcTableIsTheGeneratedTable :=
  ⟨crcTable_length, crcTableAt_eq⟩

/-! ### The two forms of an update (R91, R93) -/

theorem ofHiLo_xor (h l h' l' : Byte) : ofHiLo h l ^^^ ofHiLo h' l' = ofHiLo (h ^^^ h') (l ^^^ l') := BitVec.xor_append

theorem ofHiLo_zero (b : Byte) : ofHiLo 0#8 b = b.setWidth 16 := by
  apply BitVec.eq_of_toNat_eq
  rw [ofHiLo_toNat, BitVec.toNat_setWidth, BitVec.toNat_zero]
  omega

/-- The high byte is what the right shift by 8 leaves. -/
theorem setWidth_hi8 (v : Word) : (hi8 v).setWidth 16 = v >>> 8 := by
  apply BitVec.eq_of_toNat_eq
  rw [BitVec.toNat_setWidth, hi8_toNat, BitVec.toNat_ushiftRight, Nat.shiftRight_eq_div_pow]
  omega

/-- The table update by the two bytes of the accumulator (R91). -/
theorem crcUpdate_ofHiLo (h l b : Byte) : crcUpdate (ofHiLo h l) b = h.setWidth 16 ^^^ crcTableAt (l ^^^ b) := by
  rw [crcUpdate, ← setWidth_hi8, hi8_ofHiLo, lo8_ofHiLo]

/-- The bit-serial update by the two bytes of the accumulator (R93): the shift steps are linear, so the high byte is shifted
down apart from the low byte and the input. -/
theorem crcUpdateSerial_ofHiLo (h l b : Byte) :
    crcUpdateSerial (ofHiLo h l) b = h.setWidth 16 ^^^ crcShift8 ((l ^^^ b).setWidth 16) := by
  have hsplit : ofHiLo h l ^^^ b.setWidth 16 = ofHiLo h 0#8 ^^^ (l ^^^ b).setWidth 16 := by
    simp only [← ofHiLo_zero, ofHiLo_xor, BitVec.xor_zero, BitVec.zero_xor]
  rw [crcUpdateSerial, hsplit, crcShift8_xor, crcShift8_ofHiLo_zero]

/-- Settles O2: the table holds what the shift steps give on the low byte of the accumulator and the input together. -/
theorem crcBitSerialFormAgrees : Obligations.CrcBitSerialFormAgrees := by
  intro c b
  rw [← ofHiLo_hi8_lo8 c, crcUpdateSerial_ofHiLo, crcUpdate_ofHiLo, crcTableAt_eq]

/-! ### A message and its own checksum (R97) -/

/-- A message followed by the low byte of its checksum has the high byte as checksum (R97 (b)). -/
theorem crc16_append_lo8 (m : List Byte) : crc16 (m ++ [lo8 (crc16 m)]) = (hi8 (crc16 m)).setWidth 16 := by
  rw [crc16_append_byte, crcUpdate_lo8, setWidth_hi8]

/-- A message followed by its own checksum has checksum 0: the second byte meets itself as the low byte of the accumulator,
whose high byte is 0 (R97 (a)). -/
theorem crc16_frame (m : List Byte) : crc16 (frame m) = 0#16 := by
  have hcut : frame m = m ++ [lo8 (crc16 m)] ++ [hi8 (crc16 m)] := by simp [frame, le16]
  rw [hcut, crc16_append_byte, crc16_append_lo8, ← ofHiLo_zero, crcUpdate_ofHiLo, BitVec.xor_self]
  rfl

/-- Settles O3: R97 (a) is `crc16_frame`, R97 (b) is `crc16_append_lo8`. -/
theorem crcOfMessageAndItsCrc : Obligations.CrcOfMessageAndItsCrc :=
  fun m => ⟨crc16_frame m, crc16_append_lo8 m⟩

end Sys2Proof
end

section
/-! PROOFS. O30: a buffer that the validator accepts, with stray zero bytes after it (R97, R220). -/

namespace Sys2Proof.Machine

open Sys2Proof

/-! ### The check of the checksum (R163) -/

theorem crcMatches_iff {b : List Byte} : crcMatches b ↔ (crc16 (b.take (b.length - 2))).toNat = receivedCrc b := Iff.rfl

/-- The check on a buffer with its last two bytes apart: they are the checksum of what stands before, low byte first. -/
theorem crcMatches_append_pair (m : List Byte) (l h : Byte) : crcMatches (m ++ [l, h]) ↔ crc16 m = ofHiLo h l := by
  rw [← BitVec.toNat_inj, ofHiLo_toNat]
  simp [crcMatches, byteAt]

/-- A buffer of two bytes or more that passes the check is some message with its own checksum. -/
theorem eq_frame_of_crcMatches {b : List Byte} (hlen : 2 ≤ b.length) (h : crcMatches b) : ∃ m, b = frame m := by
  obtain ⟨x, y, hxy⟩ := List.length_eq_two.1 (show (b.drop (b.length - 2)).length = 2 by simp; omega)
  have hb : b = b.take (b.length - 2) ++ [x, y] := by rw [← hxy, List.take_append_drop]
  refine ⟨b.take (b.length - 2), ?_⟩
  rw [hb, crcMatches_append_pair] at h
  rw [frame, (le16_eq_pair _ _ _).2 h, ← hb]

/-- A message with its own checksum and a stray zero byte passes the check (R97 (b)). -/
theorem crcMatches_frame_zero (m : List Byte) : crcMatches (frame m ++ [0x00#8]) := by
  have hcut : frame m ++ [0x00#8] = m ++ [lo8 (crc16 m)] ++ [hi8 (crc16 m), 0x00#8] := by simp [frame, le16]
  rw [hcut, crcMatches_append_pair, crc16_append_lo8, ofHiLo_zero]

/-- A message with its own checksum and two stray zero bytes passes the check (R97 (a)). -/
theorem crcMatches_frame_zero_zero (m : List Byte) : crcMatches (frame m ++ [0x00#8, 0x00#8]) := by
  rw [crcMatches_append_pair, crc16_frame]
  rfl

/-! ### What an accepted buffer says about a longer one (R160 to R167) -/

theorem byteAt_append_left {b : List Byte} (z : List Byte) {i : Nat} (h : i < b.length) : byteAt (b ++ z) i = byteAt b i := by
  exact List.getD_append b z 0#8 i h

/-- What the validator has checked when it accepts: the checksum, the address, that the function code is not the request's
exception marker, and the length that goes with the request (R163 to R167). -/
theorem validate_ok_checks {b p : List Byte} {txn : Txn} (h : validate b txn = .ok p) :
    4 ≤ b.length ∧ crcMatches b ∧ byteAt b 0 = txn.slave ∧ (byteAt b 1).toNat ≠ txn.fc.toNat + errBias ∧
      (txn.counted = true → (byteAt b 2).toNat + 5 = b.length) ∧ (txn.counted = false → b.length = fixedRspLen) := by
  unfold validate at h
  split_ifs at h with h0 h4 hcrc haddr hexc herr hcounted h5 hcount hfixed
  · exact ⟨by omega, crcMatches_iff.2 (not_not.1 hcrc), not_not.1 haddr, hexc, fun _ => by omega, by simp [hcounted]⟩
  · exact ⟨by omega, crcMatches_iff.2 (not_not.1 hcrc), not_not.1 haddr, hexc, by simp [hcounted], fun _ => not_not.1 hfixed⟩

/-- An accepted buffer with more bytes after it is rejected on length, where the check of the checksum still passes: every
check before that of the length reads the same bytes. -/
theorem validate_append_of_ok {b p z : List Byte} {txn : Txn} (h : validate b txn = .ok p) (hz : z ≠ [])
    (hcrc : crcMatches (b ++ z)) : validate (b ++ z) txn = .error .unexpectedLength := by
  obtain ⟨hlen, -, haddr, hexc, hcounted, hfixed⟩ := validate_ok_checks h
  have hlonger : b.length < (b ++ z).length := by
    rw [List.length_append]
    exact Nat.lt_add_of_pos_right (List.length_pos_iff.2 hz)
  have h0 : byteAt (b ++ z) 0 = byteAt b 0 := byteAt_append_left z (by omega)
  have h1 : byteAt (b ++ z) 1 = byteAt b 1 := byteAt_append_left z (by omega)
  have h2 : byteAt (b ++ z) 2 = byteAt b 2 := byteAt_append_left z (by omega)
  unfold validate
  rw [if_neg (by omega), if_neg (by omega), if_neg (not_not.2 (crcMatches_iff.1 hcrc)), if_neg (not_not.2 (h0.trans haddr)),
    if_neg (by rwa [h1]), h2]
  cases hc : txn.counted with
  | true =>
    have := hcounted hc
    rw [if_pos rfl, if_neg (by omega), if_pos (by omega)]
  | false =>
    have := hfixed hc
    rw [if_neg Bool.false_ne_true, if_pos (by omega)]

/-- Settles O30: the accepted buffer is a message with its own checksum, so that the checksum still fits with the zero bytes
after it, and the length does not. -/
theorem strayZeroBytesAreRejectedOnLength : Obligations.StrayZeroBytesAreRejectedOnLength := by
  intro b p txn h
  obtain ⟨hlen, hcrc, -⟩ := validate_ok_checks h
  obtain ⟨m, rfl⟩ := eq_frame_of_crcMatches (by omega) hcrc
  exact ⟨validate_append_of_ok h (by simp) (crcMatches_frame_zero m),
    validate_append_of_ok h (by simp) (crcMatches_frame_zero_zero m)⟩

end Sys2Proof.Machine
end

section
/-! PROOFS. O4, O5, O6: what the packing helpers put where (R109, R110, R112). -/

namespace Sys2Proof

/-! ### Bits (R109, R112) -/

/-- Settles O4: byte `j` is `packByte b j`, whose bit `k` is the element, or the default past the end. -/
theorem packBitsLayout : Obligations.PackBitsLayout := by
  refine fun b => ⟨packBits_length b, fun j k hj hk => ?_⟩
  rw [byteAt_packBits b hj, packByte_getLsbD b j k hk]
  split
  · exact List.getD_eq_getElem b false ‹_›
  · exact List.getD_eq_default b false (Nat.not_lt.1 ‹_›)

/-- Element `i` of the unpacked bits is bit `i mod 8` of byte `i div 8` (R112). -/
theorem unpackBits_getD (p : List Byte) {q i : Nat} (hi : i < q) (d : Bool) :
    (unpackBits p q).getD i d = (byteAt p (i / 8)).getLsbD (i % 8) := by
  rw [List.getD_eq_getElem _ _ (by simpa using hi)]
  simp [unpackBits]

/-- A bit as a number: what a right shift brings to the lowest place. -/
theorem toNat_getLsbD (b : Byte) (k : Nat) : (b.getLsbD k).toNat = (b >>> k).toNat % 2 := by
  rw [BitVec.getLsbD, Nat.toNat_testBit, BitVec.toNat_ushiftRight, Nat.shiftRight_eq_div_pow]

/-- Settles O5: the elements by `unpackBits_getD`, the inverse by `unpackBits_packBits`. -/
theorem unpackBitsInvertsPackBits : Obligations.UnpackBitsInvertsPackBits := by
  refine ⟨fun p q _ => ⟨unpackBits_length p q, fun i hi => ?_⟩, unpackBits_packBits⟩
  rw [unpackBits_getD p hi, toNat_getLsbD]

/-! ### Registers (R110) -/

/-- The two bytes of element `i` stand at `2i` and `2i + 1`, the high one first. -/
theorem byteAt_packRegs {v : List Word} {i : Nat} (h : i < v.length) :
    byteAt (packRegs v) (2 * i) = hi8 v[i] ∧ byteAt (packRegs v) (2 * i + 1) = lo8 v[i] := by
  induction v generalizing i with
  | nil => exact absurd h (Nat.not_lt_zero i)
  | cons w v ih =>
    cases i with
    | zero => exact ⟨rfl, rfl⟩
    | succ i => exact ih (Nat.lt_of_succ_lt_succ h)

/-- Settles O6: the length by `packRegs_length`, the bytes by `byteAt_packRegs`, the reading back by `unpackRegs_packRegs`. -/
theorem packRegsReadsBack : Obligations.PackRegsReadsBack :=
  fun v => ⟨packRegs_length v, fun _ h => byteAt_packRegs h, unpackRegs_packRegs v⟩

end Sys2Proof
end

section
/-! PROOFS. O10 to O14: GO at rest, which starts a well-formed operation and rejects every other (R100 to R108, R118, R191). -/

namespace Sys2Proof.Machine

open Sys2Proof

/-- GO with the encode rule worked out: the PDU of the operation's own request frame, or `InvalidParameter` (R100, R118, R171). -/
theorem exec_go {s : State} (hb : s.busy = false) (i : Instr) :
    exec i s = .next (if i.wf s.cfg.wmcQtyMax = true then go (callOperands i s.operands) (.ok (encodeBody i).tail) s
      else go (callOperands i s.operands) (.error .invalidParameter) s) := by
  rw [exec_rest hb, encodeRule_eq]
  split <;> rfl

/-- GO where the bound of the operation is known to say `w`, and the two next states are known. -/
theorem exec_go_of {s : State} (hb : s.busy = false) {i : Instr} {w : Prop} [Decidable w]
    (hw : i.wf s.cfg.wmcQtyMax = true ↔ w) {started rejected : State}
    (hs : go (callOperands i s.operands) (.ok (encodeBody i).tail) s = started)
    (hr : go (callOperands i s.operands) (.error .invalidParameter) s = rejected) :
    exec i s = .next (if w then started else rejected) := by
  rw [exec_go hb, if_congr hw hs hr]

/-- Settles O10: `exec_go_of` with the bound of R101 and R102. -/
theorem bitReadsGo : Obligations.BitReadsGo := fun _ _ _ _ hb =>
  ⟨exec_go_of hb (wf_readCoils _ _ _ _) rfl rfl, exec_go_of hb (wf_readDiscreteInputs _ _ _ _) rfl rfl⟩

/-- Settles O11: `exec_go_of` with the bound of R103 and R104. -/
theorem registerReadsGo : Obligations.RegisterReadsGo := fun _ _ _ _ hb =>
  ⟨exec_go_of hb (wf_readHoldingRegisters _ _ _ _) rfl rfl, exec_go_of hb (wf_readInputRegisters _ _ _ _) rfl rfl⟩

/-- Settles O12: `exec_go_of` with the two values of R105; a register takes every value, so that GO starts it (R106). -/
theorem singleWritesGo : Obligations.SingleWritesGo := by
  refine fun s sl a v hb => ⟨exec_go_of hb (wf_writeSingleCoil _ _ _ _) rfl rfl, ?_⟩
  rw [exec_go hb, if_pos (wf_writeSingleRegister _ _ _ _)]
  rfl

/-- Settles O13: `exec_go_of` with the bounds of R107 and R108. -/
theorem multipleWritesGo : Obligations.MultipleWritesGo := fun _ _ _ _ _ hb =>
  ⟨exec_go_of hb (wf_writeMultipleCoils _ _ _ _) rfl rfl, exec_go_of hb (wf_writeMultipleRegisters _ _ _ _) rfl rfl⟩

/-- The request of an operation starts with the slave address that GO latches (R60, R171). -/
theorem slave_cons_tail_encodeBody (i : Instr) (x : Operands) :
    (callOperands i x).slave :: (encodeBody i).tail = encodeBody i := by cases i <;> rfl

/-- Settles O14: of the two outcomes of `exec_go` the well-formed operation has the first and the ill-formed one the second. -/
theorem goAcceptsExactlyTheWellFormed : Obligations.GoAcceptsExactlyTheWellFormed := by
  intro i s hb
  rw [exec_go hb]
  refine ⟨fun hwf => ?_, fun hwf => ?_⟩
  · rw [if_pos hwf]
    exact ⟨_, _, rfl, rfl, slave_cons_tail_encodeBody i _, callOperands_fc i _, rfl, rfl⟩
  · rw [if_neg (by simp [hwf])]
    exact ⟨_, rfl, ⟨rfl, rfl, rfl, rfl, rfl⟩, rfl, rfl, rfl, rfl, rfl⟩

end Sys2Proof.Machine
end

section
/-! PROOFS. O33 to O36: the decode step of a response, and how the host reads its elements (R13, R113 to R116). -/

namespace Sys2Proof.Machine

open Sys2Proof

/-- The decode step of an operation's own transaction is its decode rule (R172). -/
theorem exec_decode {i : Instr} {s : State} {p : List Byte} (hq : s.seq = .validating (.decode p))
    (hf : s.txn.fc = i.functionCode) : exec i s = .next (decodeRule i p s) := by
  rw [exec_own (by rw [State.busy, hq]; rfl) hf]
  simp only [advance, hq]

/-- A host read of an element whose content is defined (R13). -/
theorem hostReadElem_hostData {w : Window} {k : Nat} {v : Word} {s : State} (hv : s.elemContent w k = some v) :
    (s.hostReadElem w k).hostData = presentElem w s.txn.signed v := by
  rw [State.hostReadElem, hv]
  rfl

/-- A result of a bit read is read as 0 or 1 (R9, R13). -/
theorem hostReadElem_rbits {s : State} {j : Nat} (h : s.isResult .rbits j = true) :
    (s.hostReadElem .rbits j).hostData = if Memory.read s.rbits j = true then 1 else 0 := by
  have hcontent : s.elemContent .rbits j = some (wordOfBit (Memory.read s.rbits j)) := if_pos h
  rw [hostReadElem_hostData hcontent, presentElem_rbits]

/-- A result of a register read is read signed or unsigned, as `TXN.SIGNED` says (R13, R114). -/
theorem hostReadElem_rregs {s : State} {j : Nat} (h : s.isResult .rregs j = true) : (s.hostReadElem .rregs j).hostData =
    if s.txn.signed = true then sext16 (Memory.read s.rregs j) else zext16 (Memory.read s.rregs j) :=
  hostReadElem_hostData (if_pos h)

/-! ### The two read responses (R113, R114) -/

theorem decodeBits_ok {p : List Byte} {s : State} (hp : p.length = ceilDiv s.txn.qty.toNat 8) :
    decodeBits p s = s.completeBits (unpackBits p s.txn.qty.toNat) s.txn.qty := if_neg (not_not_intro hp)

theorem decodeBits_badLength {p : List Byte} {s : State} (hp : p.length ≠ ceilDiv s.txn.qty.toNat 8) :
    decodeBits p s = s.raise .unexpectedLength := if_pos hp

theorem decodeRegs_ok {p : List Byte} {s : State} (hp : p.length = 2 * s.txn.qty.toNat) :
    decodeRegs p s = s.completeRegs (unpackRegs p s.txn.qty.toNat) s.txn.qty := if_neg (not_not_intro hp)

theorem decodeRegs_badLength {p : List Byte} {s : State} (hp : p.length ≠ 2 * s.txn.qty.toNat) :
    decodeRegs p s = s.raise .unexpectedLength := if_pos hp

/-- RBITS after a bit read: the bits of the payload, and what it held from `q` on (R113, log 32). -/
theorem read_writeList_unpackBits (p : List Byte) (q : Nat) {m : List (Nat × Bool)} (h : Memory.wf m = true) (j : Nat) :
    Memory.read (Memory.writeList 0 (unpackBits p q) m) j =
      if j < q then (byteAt p (j / 8)).getLsbD (j % 8) else Memory.read m j := by
  rw [Memory.read_writeList 0 _ h, unpackBits_length, Nat.zero_add, Nat.sub_zero]
  by_cases hj : j < q
  · rw [if_pos ⟨Nat.zero_le j, hj⟩, if_pos hj, unpackBits_getD p hj]
  · rw [if_neg (fun h => hj h.2), if_neg hj]

/-- RREGS after a register read: the big-endian pairs of the payload, and what it held from `q` on (R114, log 32). -/
theorem read_writeList_unpackRegs (p : List Byte) (q : Nat) {m : List (Nat × Word)} (h : Memory.wf m = true) (j : Nat) :
    Memory.read (Memory.writeList 0 (unpackRegs p q) m) j = if j < q then u16be p (2 * j) else Memory.read m j := by
  rw [Memory.read_writeList 0 _ h, unpackRegs_length, Nat.zero_add, Nat.sub_zero]
  by_cases hj : j < q
  · rw [if_pos ⟨Nat.zero_le j, hj⟩, if_pos hj, List.getD_eq_getElem _ _ (by simpa using hj)]
    simp [unpackRegs]
  · rw [if_neg (fun h => hj h.2), if_neg hj]

/-- Below the quantity the elements of a completed bit read are results (R13, R182). -/
theorem completeBits_isResult {s : State} {j : Nat} {count : Word} (bits : List Bool) (hj : j < count.toNat)
    (hf : s.txn.fc = 0x01#8 ∨ s.txn.fc = 0x02#8) : (s.completeBits bits count).isResult .rbits j = true :=
  isResult_rbits (s := s.completeBits bits count) rfl hj hf

/-- Below the quantity the elements of a completed register read are results (R13, R182). -/
theorem completeRegs_isResult {s : State} {j : Nat} {count : Word} (regs : List Word) (hj : j < count.toNat)
    (hf : s.txn.fc = 0x03#8 ∨ s.txn.fc = 0x04#8) : (s.completeRegs regs count).isResult .rregs j = true :=
  isResult_rregs (s := s.completeRegs regs count) rfl hj hf

/-- Settles O33: a payload of the right length completes the read, and below `R_COUNT` the host then finds a result. -/
theorem bitResponsesDecode : Obligations.BitResponsesDecode := by
  intro i s p sl a q hi hq hf hwf
  have hrule : decodeRule i = decodeBits ∧ (s.txn.fc = 0x01#8 ∨ s.txn.fc = 0x02#8) := by
    obtain rfl | rfl := hi
    · exact ⟨rfl, .inl hf⟩
    · exact ⟨rfl, .inr hf⟩
  rw [exec_decode hq hf, hrule.1]
  refine ⟨fun hp => ?_, fun hp => by rw [decodeBits_badLength hp]; rfl⟩
  rw [decodeBits_ok hp]
  have hread := read_writeList_unpackBits p s.txn.qty.toNat hwf
  refine ⟨_, rfl, rfl, hread, fun j hj => ?_⟩
  rw [hostReadElem_rbits (completeBits_isResult _ hj hrule.2), State.completeBits, hread j, if_pos hj]

/-- Settles O34: a payload of the right length completes the read, and below `R_COUNT` the host then finds a result. -/
theorem registerResponsesDecode : Obligations.RegisterResponsesDecode := by
  intro i s p sl a q hi hq hf hwf
  have hrule : decodeRule i = decodeRegs ∧ (s.txn.fc = 0x03#8 ∨ s.txn.fc = 0x04#8) := by
    obtain rfl | rfl := hi
    · exact ⟨rfl, .inl hf⟩
    · exact ⟨rfl, .inr hf⟩
  rw [exec_decode hq hf, hrule.1]
  refine ⟨fun hp => ?_, fun hp => by rw [decodeRegs_badLength hp]; rfl⟩
  rw [decodeRegs_ok hp]
  have hread := read_writeList_unpackRegs p s.txn.qty.toNat hwf
  refine ⟨_, rfl, rfl, hread, fun j hj => ?_⟩
  rw [hostReadElem_rregs (completeRegs_isResult _ hj hrule.2), State.completeRegs, hread j, if_pos hj]
  rfl

/-! ### The two echoes (R115, R116) -/

/-- Two bytes are big-endian of `v` exactly when they are its high and its low byte. -/
theorem ofHiLo_eq_iff {h l : Byte} {v : Word} : ofHiLo h l = v ↔ h = hi8 v ∧ l = lo8 v := by
  constructor
  · rintro rfl
    simp
  · rintro ⟨rfl, rfl⟩
    exact ofHiLo_hi8_lo8 v

/-- The comparison of a four-byte echo with two fields is the comparison of its bytes (R68). -/
theorem echo_matches_iff {p : List Byte} (hp : p.length = 4) (a v : Word) :
    (decide (u16be p 0 = a) && decide (u16be p 2 = v)) = true ↔ p = [hi8 a, lo8 a, hi8 v, lo8 v] := by
  match p, hp with
  | [b0, b1, b2, b3], _ =>
    rw [show u16be [b0, b1, b2, b3] 0 = ofHiLo b0 b1 from rfl, show u16be [b0, b1, b2, b3] 2 = ofHiLo b2 b3 from rfl]
    simp [ofHiLo_eq_iff, and_assoc]

/-- Settles O35: the rule is one `completeAck`, with the comparison of `echo_matches_iff`. -/
theorem singleWriteEchoesDecode : Obligations.SingleWriteEchoesDecode := by
  intro i s p sl a v hi hq hf hp
  have hrule : decodeRule i = decodeSingleEcho := by obtain rfl | rfl := hi <;> rfl
  rw [exec_decode hq hf, hrule]
  exact ⟨_, rfl, rfl, echo_matches_iff hp _ _⟩

/-- Settles O36: the rule is one `completeAck`, with the comparison of `echo_matches_iff`. -/
theorem multipleWriteEchoesDecode : Obligations.MultipleWriteEchoesDecode := by
  intro i s p sl a cs rs hi hq hf hp
  have hrule : decodeRule i = decodeMultipleEcho := by obtain rfl | rfl := hi <;> rfl
  rw [exec_decode hq hf, hrule]
  exact ⟨_, rfl, rfl, echo_matches_iff hp _ _⟩

end Sys2Proof.Machine
end

section
/-! PROOFS. O28: RXBUF holds what was read since the drain, in every step (R132, R137, R143, R144). -/

namespace Sys2Proof.Machine

open Sys2Proof

/-! ### What was read since the drain (R143) -/

@[simp] theorem readsSinceDrain_flushRx (es : List PortEvent) : readsSinceDrain (es ++ [.flushRx]) = [] := by
  simp [readsSinceDrain]

@[simp] theorem readsSinceDrain_read (es : List PortEvent) (bs : List Byte) :
    readsSinceDrain (es ++ [.read bs]) = readsSinceDrain es ++ bs := by simp [readsSinceDrain]

@[simp] theorem readsSinceDrain_write (es : List PortEvent) (bs : List Byte) :
    readsSinceDrain (es ++ [.write bs]) = readsSinceDrain es := by simp [readsSinceDrain]

@[simp] theorem readsSinceDrain_de (es : List PortEvent) (level : Bool) :
    readsSinceDrain (es ++ [.de level]) = readsSinceDrain es := by simp [readsSinceDrain]

theorem driveDe_reads (level : Bool) (s : State) :
    readsSinceDrain (s.driveDe level).events = readsSinceDrain s.events := by
  rw [State.driveDe_events]
  split
  · exact readsSinceDrain_de _ _
  · rfl

/-- A poll appends to RXBUF the bytes that it reads (R137). -/
theorem pollAppend_rxBytes (t : Nat) {s : State} (h : Memory.wf s.rxbuf = true) :
    (s.pollAppend t).rxBytes = s.rxBytes ++ s.rxq.take s.pollTake := Memory.readList_append s.rxlen _ h

theorem pollAppend_reads (t : Nat) (s : State) :
    readsSinceDrain (s.pollAppend t).events = readsSinceDrain s.events ++ s.rxq.take s.pollTake := readsSinceDrain_read _ _

/-! ### The invariant by phases -/

/-- The engine is past the drain and has not yet entered the receive loop (R132 to R134). -/
def Seq.beforeLoop : Seq → Bool
  | .sending (.build _) => false
  | .sending .drain => false
  | .sending _ => true
  | .awaitingResponse .enter => true
  | _ => false

/-- Before the loop nothing has been read; in the loop and in `Validating` RXBUF holds what has. -/
theorem receivedInv_iff {s : State} : ReceivedInv s ↔
    (s.seq.beforeLoop = true → readsSinceDrain s.events = []) ∧
    (s.seq.holdsResponse = true → s.rxBytes = readsSinceDrain s.events) := by
  refine ⟨fun ⟨hsend, henter, hloop⟩ => ⟨fun hq => ?_, hloop⟩, fun ⟨hbefore, hloop⟩ => ⟨?_, ?_, hloop⟩⟩
  · match hs : s.seq, hq with
    | .sending k, hq =>
      cases k with
      | build | drain => exact nomatch hq
      | _ => exact hsend _ hs (by simp) (by simp)
    | .awaitingResponse .enter, _ => exact henter hs
  · intro k hs hdrain hbuild
    cases k with
    | build pdu => exact absurd rfl (hbuild pdu)
    | drain => exact absurd rfl hdrain
    | _ => exact hbefore (by rw [hs]; rfl)
  · exact fun hs => hbefore (by rw [hs]; rfl)

theorem ReceivedInv.unread {s : State} (h : ReceivedInv s) (hq : s.seq.beforeLoop = true) : readsSinceDrain s.events = [] :=
  (receivedInv_iff.1 h).1 hq

theorem ReceivedInv.of_unread {s : State} (hq : s.seq.holdsResponse = false) (h : readsSinceDrain s.events = []) :
    ReceivedInv s := receivedInv_iff.2 ⟨fun _ => h, fun hl => by simp [hq] at hl⟩

theorem ReceivedInv.of_held {s : State} (hq : s.seq.beforeLoop = false) (h : s.rxBytes = readsSinceDrain s.events) :
    ReceivedInv s := receivedInv_iff.2 ⟨fun hb => by simp [hq] at hb, fun _ => h⟩

/-- Up to the drain of a transaction, and once it has ended, nothing is claimed. -/
theorem ReceivedInv.of_neither {s : State} (hb : s.seq.beforeLoop = false) (hl : s.seq.holdsResponse = false) :
    ReceivedInv s := receivedInv_iff.2 ⟨fun h => by simp [hb] at h, fun h => by simp [hl] at h⟩

/-! ### Every step -/

theorem EngineMove.receivedInv {i : Instr} {s t : State} (m : EngineMove i s t) (hw : Memory.wf s.rxbuf = true)
    (h : ReceivedInv s) : ReceivedInv t := by
  cases m with
  | stay => exact h
  | drain | drainNoDe => exact .of_unread rfl (readsSinceDrain_flushRx _)
  | assertDe hq | releaseDe hq => exact .of_unread rfl ((driveDe_reads _ s).trans (h.unread (by rw [hq]; rfl)))
  | write hq | writeNoDe hq => exact .of_unread rfl ((readsSinceDrain_write _ _).trans (h.unread (by rw [hq]; rfl)))
  | doneSeen hq => exact .of_unread rfl (h.unread (by rw [hq]; rfl))
  | enter hq => exact .of_held rfl (h.unread (by rw [hq]; rfl)).symm
  | readNow hq | silentEnd _ hq | silentWait _ hq | wake _ hq => exact .of_held rfl (h.loop (by rw [hq]; rfl))
  | readEnd t hq | readWait t hq =>
    have held : (s.pollAppend t).rxBytes = readsSinceDrain (s.pollAppend t).events := by
      rw [pollAppend_rxBytes t hw, pollAppend_reads, h.loop (by rw [hq]; rfl)]
    exact .of_held rfl held
  | accept _ hq =>
    rw [checkCrc_eq]
    exact .of_held rfl (h.loop (by rw [hq]; rfl))
  | build | reject | bits | regs | badLength | ack => exact .of_neither rfl rfl

theorem TurnEffect.receivedInv {u : Turn} {s t : State} (e : TurnEffect u s t) (hw : Memory.wf s.rxbuf = true)
    (h : ReceivedInv s) : ReceivedInv t := by
  cases e with
  | engine i _ _ _ m => exact m.receivedInv hw h
  | go v x p _ _ _ _ _ ht =>
    subst ht
    cases p <;> exact .of_neither rfl rfl
  | boot a c _ _ ht => subst ht; exact .of_neither rfl rfl
  | outside k =>
    obtain ⟨hsend, henter, hloop⟩ := h
    constructor <;> simpa only [State.rxBytes, k.seq, k.events, k.rxbuf, k.rxlen]

theorem ReceivedInv.with_agenda {s : State} (h : ReceivedInv s) (ag : List Turn) : ReceivedInv { s with agenda := ag } :=
  ⟨h.sending, h.entry, h.loop⟩

/-- Settles O28: the drain forgets what was read before, and each poll appends to RXBUF what it reads. -/
theorem stepKeepsReceivedBytes : Obligations.StepKeepsReceivedBytes := by
  intro s t hb h hs
  obtain ⟨ag, e⟩ := step_effect hs
  exact e.receivedInv hb.rxbuf.1 (h.with_agenda ag)

end Sys2Proof.Machine
end

section
/-! PROOFS. O20 to O24: the build, the drain, the transmit steps with the wait for `tx_done`, and the entry to the receive loop
(R131 to R136). -/

namespace Sys2Proof.Machine

open Sys2Proof

/-! ### One step of `Sending` and of `AwaitingResponse` as `exec` -/

/-- A step of an operation's own transaction in `Sending` is that step of the framer (R131 to R134). -/
theorem exec_sending {i : Instr} {s : State} {k : SendStep} (hq : s.seq = .sending k) (hf : s.txn.fc = i.functionCode) :
    exec i s = .next (sendStep k s) := by
  rw [exec_own (busy_of_sending hq) hf]
  simp only [advance, hq]

/-- A step of an operation's own transaction in `AwaitingResponse` is that step of the framer (R136, R137). -/
theorem exec_awaitingResponse {i : Instr} {s : State} {k : RecvStep} (hq : s.seq = .awaitingResponse k)
    (hf : s.txn.fc = i.functionCode) : exec i s = .next (recvStep k s) := by
  rw [exec_own (by rw [State.busy, hq]; rfl) hf]
  simp only [advance, hq]

/-! ### The steps of `Sending` -/

/-- TXBUF after an ADU has been put into it: its bytes, and what it held after them (R131). -/
theorem read_writeList_zero (bs : List Byte) {m : List Host.Cell} (h : Memory.wf m = true) (k : Nat) :
    Memory.read (Memory.writeList 0 bs m) k = if k < bs.length then byteAt bs k else Memory.read m k := by
  rw [Memory.read_writeList 0 bs h, Nat.zero_add, Nat.sub_zero]
  simp only [Nat.zero_le, true_and]
  rfl

/-- Settles O20: the ADU is the `frame` of slave address and PDU, and `buildAdu_eq` says what else the step writes. -/
theorem buildWritesTheAdu : Obligations.BuildWritesTheAdu := by
  intro i s pdu hq hf hw
  have hlen : (frame (s.txn.slave :: pdu)).length = pdu.length + 3 := frame_length _
  have hread := read_writeList_zero (frame (s.txn.slave :: pdu)) hw
  rw [hlen] at hread
  refine ⟨_, exec_sending hq hf, ?_, fun k hk => ?_, fun k hk => ?_⟩ <;> simp only [sendStep, buildAdu_eq]
  · rw [hlen]
  · exact (hread k).trans (if_pos hk)
  · exact (hread k).trans (if_neg (by omega))

/-- Settles O21: the drain step is `SER.flush_rx()` and nothing else. -/
theorem drainDiscardsTheQueue : Obligations.DrainDiscardsTheQueue := fun _ _ hq hf => exec_sending hq hf

theorem driveDe_present {s : State} (hd : s.cfg.dePresent = true) (level : Bool) :
    s.driveDe level = { s with de := level, events := s.events ++ [.de level] } := if_pos hd

/-- Settles O22: each step is its `sendStep` with the direction output present or absent. -/
theorem transmitSteps : Obligations.TransmitSteps := by
  intro i s hf
  refine ⟨fun hd => ⟨fun hq => ?_, fun hq => ?_, fun hq ht => ?_, fun hq ht => ?_, fun hq => ?_⟩, fun hd hq => ?_⟩ <;>
    rw [exec_sending hq hf]
  · rw [sendStep, driveDe_present hd]; rfl
  · rw [sendStep, if_pos hd]; rfl
  · rw [sendStep, if_neg (by simp [ht])]
  · rw [sendStep, if_pos ht]; rfl
  · rw [sendStep, driveDe_present hd]; rfl
  · rw [sendStep, if_neg (by simp [hd])]; rfl

/-! ### The wait for `tx_done` (R135) -/

/-- The engine waits for `SER.tx_done`, which is still 0. -/
structure State.WaitsForTxDone (s : State) : Prop where
  seq : s.seq = .sending .awaitDone
  txDone : s.txDone = false

/-- A turn of the engine leaves its wait as it is. -/
theorem engineTurn_waits {s : State} (h : s.WaitsForTxDone) : engineTurn s = .next s := by
  obtain ⟨i, -, hf, he⟩ | ⟨-, he⟩ := engineTurn_cases s <;> rw [he]
  rw [exec_sending h.seq (fetchTxn_functionCode hf), sendStep, if_neg (by simp [h.txDone])]

/-- While a transaction runs the host can do no more than read (R11, R12, R181). -/
theorem hostTurn_busy {a : HostAct} {s t : State} (hb : s.busy = true) (h : hostTurn a s = .next t) :
    t = s ∨ ∃ c v, t = s.deliver c v := by
  cases a with
  | writeReg n v =>
    simp only [hostTurn, goTurn, State.hostWriteReg, hb, if_true, ite_self] at h
    split_ifs at h
    injection h with h
    exact .inl h.symm
  | writeElem w k v =>
    simp only [hostTurn, State.hostWriteElem, hb, if_true] at h
    split_ifs at h
    injection h with h
    exact .inl h.symm
  | readReg | readElem =>
    simp only [hostTurn] at h
    split_ifs at h
    injection h with h
    exact .inr ⟨_, _, h.symm⟩

/-- What a turn that does not end the wait leaves alone. -/
structure WaitKept (s t : State) : Prop where
  waits : t.WaitsForTxDone
  de : t.de = s.de
  agenda : t.agenda = s.agenda

theorem WaitKept.refl {s : State} (h : s.WaitsForTxDone) : WaitKept s s := ⟨h, rfl, rfl⟩

theorem takeTurn_waits {u : Turn} {s t : State} (h : s.WaitsForTxDone) (hu : u.leavesWait = true)
    (ht : takeTurn u s = .next t) : WaitKept s t := by
  cases u with
  | engine =>
    rw [takeTurn, engineTurn_waits h] at ht
    injection ht with ht
    exact ht ▸ .refl h
  | host a =>
    obtain rfl | ⟨c, v, rfl⟩ := hostTurn_busy (busy_of_sending h.seq) ht
    · exact .refl h
    · exact ⟨⟨h.seq, h.txDone⟩, rfl, rfl⟩
  | env a =>
    injection ht with ht
    subst ht
    cases a with
    | receive | pass => exact ⟨⟨h.seq, h.txDone⟩, rfl, rfl⟩
    | txDone => exact nomatch hu
  | boot a => exact nomatch hu

/-- A step whose turn does not end the wait. -/
theorem step_waits {s t : State} (h : s.WaitsForTxDone) (ha : ∀ u, u ∈ s.agenda → u.leavesWait = true)
    (ht : step s = .next t) : t.WaitsForTxDone ∧ t.de = s.de ∧ t.agenda = s.agenda.tail := by
  obtain ⟨hnil, he⟩ | ⟨u, rest, hcons, he⟩ := step_cases s <;> rw [he] at ht
  · rw [engineTurn_waits h] at ht
    injection ht with ht
    exact ht ▸ ⟨h, rfl, by rw [hnil]; rfl⟩
  · obtain ⟨hw, hde, hag⟩ := takeTurn_waits (s := { s with agenda := rest }) ⟨h.seq, h.txDone⟩
      (ha u (by rw [hcons]; exact List.mem_cons_self)) ht
    exact ⟨hw, hde, by rw [hag, hcons]; rfl⟩

theorem run_waits_alone (k : Nat) {s : State} (h : s.WaitsForTxDone) (ha : s.agenda = []) :
    Host.Core.run core k s = .next s := by
  induction k with
  | zero => rfl
  | succ k ih => rw [run_succ ((step_alone ha).trans (engineTurn_waits h)), ih]

theorem run_waits (k : Nat) {s t : State} (h : s.WaitsForTxDone) (ha : ∀ u, u ∈ s.agenda → u.leavesWait = true)
    (ht : Host.Core.run core k s = .next t) : t.WaitsForTxDone ∧ t.de = s.de := by
  induction k generalizing s with
  | zero =>
    injection ht with ht
    exact ht ▸ ⟨h, rfl⟩
  | succ k ih =>
    cases hs : step s with
    | next s' =>
      obtain ⟨hw, hde, hag⟩ := step_waits h ha hs
      rw [run_succ hs] at ht
      obtain ⟨hwt, hdet⟩ := ih hw (fun u hu => ha u (List.mem_of_mem_tail (hag ▸ hu))) ht
      exact ⟨hwt, hdet.trans hde⟩
    | fault r => simp [Host.Core.run, show core.step s = .fault r from hs] at ht
    | refused r => simp [Host.Core.run, show core.step s = .refused r from hs] at ht

/-- In the wait the direction output is asserted, if the line's invariant holds (R26, R133). -/
theorem LineInv.de_of_awaitDone {s : State} (h : LineInv s) (hq : s.seq = .sending .awaitDone) : s.de = true := by
  obtain ⟨⟨p, -, hp⟩, hde, -⟩ := h
  rw [hq] at hp hde
  cases hd : s.cfg.dePresent <;> rw [hd] at hp hde
  · exact nomatch hp
  · exact hde

/-- Settles O23: no turn but `tx_done` and the bootstrap layer's ends the wait or moves `DE`. -/
theorem txDoneWaitHasNoTimeout : Obligations.TxDoneWaitHasNoTimeout := by
  refine ⟨fun s k hq ht ha => run_waits_alone k ⟨hq, ht⟩ ha, fun s hq h => h.de_of_awaitDone hq, fun s t k hq hd ha ht => ?_⟩
  obtain ⟨⟨hseq, hdone⟩, hde⟩ := run_waits k ⟨hq, hd⟩ ha ht
  exact ⟨hseq, hdone, hde⟩

/-! ### The entry to the receive loop (R136) -/

/-- Settles O24: the step is `enterLoop`, and `T_IDLE` is defined so. -/
theorem enterReceiveLoop : Obligations.EnterReceiveLoop := fun _ _ hq hf => ⟨exec_awaitingResponse hq hf, rfl⟩

end Sys2Proof.Machine
end

section
/-! PROOFS. O25, O26, O32: one iteration of the receive loop, the character time, and the silence that ends in `NoResponse`
(R137 to R140, R161, R192). -/

namespace Sys2Proof.Machine

open Sys2Proof

/-! ### A poll (R137, R138) -/

/-- A poll that found bytes ends the loop when they complete the response or fill RXBUF, or at the overall bound. -/
theorem pollStep_read (t : Nat) {s : State} (hne : s.rxq ≠ []) : pollStep t s = (s.pollAppend t).goto
    (if complete (s.pollAppend t).rxBytes = true ∨ (s.pollAppend t).rxlen = s.cfg.rxCap ∨ s.tStart + s.cfg.tRespMs ≤ t
     then .validating .check else .awaitingResponse (.pause (s.now + s.cfg.tPollMs))) := by
  obtain ⟨he, -⟩ | ⟨he, -⟩ | ⟨-, hend, h⟩ | ⟨-, hc, hl, h⟩ := pollStep_cases t s
  · exact absurd he hne
  · exact absurd he hne
  · rw [h, if_pos (hend.imp_right .inl)]
  · obtain ⟨hb, hclose⟩ | ⟨hb, hclose⟩ := closePoll_cases t (s.pollAppend t) <;> rw [h, hclose]
    · rw [if_pos (.inr (.inr hb))]
    · rw [if_neg]
      · rfl
      · rintro (hcomplete | hfull | hbound)
        · exact absurd hcomplete (by simp [hc])
        · exact hl hfull
        · exact absurd hb (Nat.not_lt.2 hbound)

/-- A poll that found nothing ends the loop at the idle time-out, if something came before, or at the overall bound. -/
theorem pollStep_silent (t : Nat) {s : State} (he : s.rxq = []) : pollStep t s = s.goto
    (if (0 < s.rxlen ∧ s.tLast + s.cfg.tIdle ≤ t) ∨ s.tStart + s.cfg.tRespMs ≤ t
     then .validating .check else .awaitingResponse (.pause (s.now + s.cfg.tPollMs))) := by
  obtain ⟨-, hr, hi, h⟩ | ⟨-, hidle, h⟩ | ⟨hne, -⟩ | ⟨hne, -⟩ := pollStep_cases t s
  · rw [h, if_pos (.inl ⟨hr, hi⟩)]
  · obtain ⟨hb, hclose⟩ | ⟨hb, hclose⟩ := closePoll_cases t s <;> rw [h, hclose]
    · rw [if_pos (.inr hb)]
    · rw [if_neg (not_or.2 ⟨hidle, Nat.not_le.2 hb⟩)]
  · exact absurd he hne
  · exact absurd he hne

/-- Settles O25: the poll is `pollStep_read` or `pollStep_silent`; the other two steps are their `recvStep`. -/
theorem receiveLoopIteration : Obligations.ReceiveLoopIteration := by
  intro i s hf
  refine ⟨fun hq => exec_awaitingResponse hq hf, fun t hq hne hw => ?_, fun t hq he => ?_, fun w hq => ?_⟩
  · have hlen : (s.pollAppend t).rxlen = s.rxlen + min s.rxq.length (s.cfg.rxCap - s.rxlen) :=
      congrArg (s.rxlen + ·) (pollTake_length s)
    refine ⟨_, exec_awaitingResponse hq hf, ?_, ?_, fun k hk => ?_⟩ <;> simp only [recvStep, pollStep_read t hne]
    · rw [← hlen]
      rfl
    · exact pollAppend_rxBytes t hw
    · exact Memory.read_writeList_outside s.rxlen _ hw (by rwa [← hlen] at hk)
  · rw [exec_awaitingResponse hq hf, recvStep, pollStep_silent t he]
    rfl
  · rw [exec_awaitingResponse hq hf]
    rfl

/-! ### The character time (R140) -/

/-- Rounding up gives the least natural number not below the quotient. -/
theorem ceilDiv_le_iff {a b k : Nat} (hb : 0 < b) : ceilDiv a b ≤ k ↔ a ≤ k * b := by
  rw [Nat.mul_comm]
  exact ceilDiv_le_iff_le_mul hb

/-- Settles O26: `T_CHAR_MS` is a quotient rounded up. -/
theorem characterTimeRoundsUp : Obligations.CharacterTimeRoundsUp :=
  fun _ hb => ⟨(ceilDiv_le_iff hb).1 le_rfl, fun _ => (ceilDiv_le_iff hb).2⟩

/-! ### Silence (R138, R161, R192) -/

theorem rxBytes_of_empty {s : State} (h : s.rxlen = 0) : s.rxBytes = [] := by
  rw [State.rxBytes, h]
  rfl

/-- The check of an empty RXBUF raises `NoResponse` and computes no checksum (R161). -/
theorem checkStep_empty {s : State} (h : s.rxlen = 0) : checkStep s = s.raise .noResponse := by
  rw [checkStep, rxBytes_of_empty h]
  rfl

/-- Settles O32: the poll ends the loop at the overall bound, and the check finds nothing received. -/
theorem silenceEndsInNoResponse : Obligations.SilenceEndsInNoResponse := by
  intro i s t hq hf ha he hr hb
  have polled : step s = .next (s.goto (.validating .check)) := by
    rw [step_running ha (by rw [State.busy, hq]; rfl) hf]
    simp only [advance, hq, recvStep, pollStep_silent t he, if_pos (Or.inr hb)]
  have checked : step (s.goto (.validating .check)) = .next ((s.goto (.validating .check)).raise .noResponse) := by
    have fetched : (s.goto (.validating .check)).fetchTxn = some i := (State.fetchTxn_congr rfl rfl rfl rfl rfl).trans hf
    have empty : (s.goto (.validating .check)).rxlen = 0 := hr
    rw [step_running (s := s.goto (.validating .check)) ha rfl fetched, ← checkStep_empty empty]
    rfl
  exact ⟨_, (run_succ polled 1).trans (run_succ checked 0), ⟨rfl, rfl, rfl, rfl, rfl⟩, rfl⟩

end Sys2Proof.Machine
end

section
/-! PROOFS. O27: a response frame satisfies the completion predicate at its end and at no earlier byte (R66 to R70, R141, R143). -/

namespace Sys2Proof.Machine

open Sys2Proof

/-! ### The completion predicate by the kind of response (R141) -/

theorem complete_short {b : List Byte} (h : b.length < 2) : complete b = false := if_pos h

/-- Byte 1 carries the exception marker. -/
theorem complete_exception {b : List Byte} (hlen : 2 ≤ b.length) (h : (byteAt b 1).getLsbD 7 = true) :
    complete b = decide (5 ≤ b.length) := by
  rw [complete, if_neg (by omega), if_pos h]
  rfl

/-- Byte 1 is the code of a read, so that byte 2 counts the data. -/
theorem complete_read {b : List Byte} (hlen : 2 ≤ b.length) (h : (byteAt b 1).getLsbD 7 = false)
    (hr : 0x01 ≤ (byteAt b 1).toNat ∧ (byteAt b 1).toNat ≤ 0x04) :
    complete b = decide (3 ≤ b.length ∧ 3 + (byteAt b 2).toNat + 2 ≤ b.length) := by
  rw [complete, if_neg (by omega), if_neg (by rw [h]; exact Bool.false_ne_true), if_pos hr]
  by_cases h3 : b.length < 3
  · rw [if_pos h3, decide_eq_false (by omega)]
  · rw [if_neg h3]
    exact decide_eq_decide.2 ⟨fun hc => ⟨by omega, hc⟩, And.right⟩

/-- Byte 1 is any other code, that of an echo. -/
theorem complete_fixed {b : List Byte} (hlen : 2 ≤ b.length) (h : (byteAt b 1).getLsbD 7 = false)
    (hr : ¬(0x01 ≤ (byteAt b 1).toNat ∧ (byteAt b 1).toNat ≤ 0x04)) : complete b = decide (8 ≤ b.length) := by
  rw [complete, if_neg (by omega), if_neg (by rw [h]; exact Bool.false_ne_true), if_neg hr]
  rfl

/-! ### Beginnings of a frame -/

/-- A frame that is complete at its end and at no proper beginning (R143). -/
def CompleteAtEnd (f : List Byte) : Prop := ∀ k, k ≤ f.length → complete (f.take k) = decide (k = f.length)

theorem byteAt_take {f : List Byte} {k j : Nat} (hj : j < k) : byteAt (f.take k) j = byteAt f j := by
  simp [byteAt, List.getD_eq_getElem?_getD, List.getElem?_take_of_lt hj]

/-- The beginnings of two bytes or more decide: a shorter one is never complete. -/
theorem completeAtEnd_of {f : List Byte} (h2 : 2 ≤ f.length)
    (h : ∀ k, 2 ≤ k → k ≤ f.length → (f.take k).length = k → byteAt (f.take k) 1 = byteAt f 1 →
      complete (f.take k) = decide (k = f.length)) : CompleteAtEnd f := by
  intro k hk
  have hlen : (f.take k).length = k := List.length_take_of_le hk
  by_cases hshort : k < 2
  · rw [complete_short (by omega), decide_eq_false (by omega)]
  · exact h k (by omega) hk hlen (byteAt_take (by omega))

theorem completeAtEnd_exception {f : List Byte} (hlen : f.length = 5) (h : (byteAt f 1).getLsbD 7 = true) :
    CompleteAtEnd f := completeAtEnd_of (by omega) fun k h2 hk htake h1 => by
  rw [complete_exception (by omega) (by rwa [h1]), htake]
  exact decide_eq_decide.2 (by omega)

theorem completeAtEnd_fixed {f : List Byte} (hlen : f.length = 8) (h : (byteAt f 1).getLsbD 7 = false)
    (hr : ¬(0x01 ≤ (byteAt f 1).toNat ∧ (byteAt f 1).toNat ≤ 0x04)) :
    CompleteAtEnd f := completeAtEnd_of (by omega) fun k h2 hk htake h1 => by
  rw [complete_fixed (by omega) (by rwa [h1]) (by rwa [h1]), htake]
  exact decide_eq_decide.2 (by omega)

theorem completeAtEnd_read {f : List Byte} (hlen : f.length = (byteAt f 2).toNat + 5) (h : (byteAt f 1).getLsbD 7 = false)
    (hr : 0x01 ≤ (byteAt f 1).toNat ∧ (byteAt f 1).toNat ≤ 0x04) :
    CompleteAtEnd f := completeAtEnd_of (by omega) fun k h2 hk htake h1 => by
  rw [complete_read (by omega) (by rwa [h1]) (by rwa [h1]), htake]
  refine decide_eq_decide.2 ⟨fun ⟨h3, hc⟩ => ?_, fun he => ?_⟩
  · rw [byteAt_take (by omega)] at hc
    omega
  · rw [byteAt_take (by omega)]
    omega

/-! ### The four forms of a response -/

/-- The bytes of a counted response (R66, R67): its byte 2 is the number of data bytes. -/
theorem completeAtEnd_counted {slave fc : Byte} {n : Nat} {data : List Byte}
    (hfc : fc = 0x01#8 ∨ fc = 0x02#8 ∨ fc = 0x03#8 ∨ fc = 0x04#8) (hn : data.length = n) (hlt : n < 256) :
    CompleteAtEnd (frame ([slave, fc, BitVec.ofNat 8 n] ++ data)) := by
  have hcode : fc.getLsbD 7 = false ∧ 0x01 ≤ fc.toNat ∧ fc.toNat ≤ 0x04 := by
    obtain rfl | rfl | rfl | rfl := hfc <;> decide
  have hcount : byteAt (frame ([slave, fc, BitVec.ofNat 8 n] ++ data)) 2 = BitVec.ofNat 8 n := rfl
  refine completeAtEnd_read ?_ hcode.1 hcode.2
  rw [hcount, BitVec.toNat_ofNat, Nat.mod_eq_of_lt hlt]
  simp [hn]

theorem completeAtEnd_echo {slave fc : Byte} (hfc : fc = 0x05#8 ∨ fc = 0x06#8 ∨ fc = 0x0F#8 ∨ fc = 0x10#8) (a v : Word) :
    CompleteAtEnd (rspEcho slave fc a v) := by
  have hcode : fc.getLsbD 7 = false ∧ ¬(0x01 ≤ fc.toNat ∧ fc.toNat ≤ 0x04) := by
    obtain rfl | rfl | rfl | rfl := hfc <;> decide
  exact completeAtEnd_fixed rfl hcode.1 hcode.2

theorem completeAtEnd_exc {slave fc code : Byte} (hfc : knownFunction fc = true) : CompleteAtEnd (rspExc slave fc code) := by
  have hmarker : (BitVec.ofNat 8 (fc.toNat + errBias)).getLsbD 7 = true := by
    obtain rfl | rfl | rfl | rfl | rfl | rfl | rfl | rfl := (knownFunction_iff fc).1 hfc <;> rfl
  exact completeAtEnd_exception rfl hmarker

/-- Settles O27: each of the four forms is complete at its end and at no proper beginning. -/
theorem responseFramesCompleteExactlyAtTheirEnd : Obligations.ResponseFramesCompleteExactlyAtTheirEnd := by
  intro f hform
  have hend : CompleteAtEnd f := by
    obtain ⟨sl, fc, data, hfc, -, hlen, rfl⟩ | ⟨sl, fc, regs, hfc, -, hlen, rfl⟩ | ⟨sl, fc, a, v, hfc, rfl⟩ |
      ⟨sl, fc, code, hfc, rfl⟩ := hform
    · exact completeAtEnd_counted (by tauto) rfl (by omega)
    · exact completeAtEnd_counted (by tauto) (packRegs_length regs) (by omega)
    · exact completeAtEnd_echo hfc a v
    · exact completeAtEnd_exc hfc
  refine ⟨?_, fun k hk => (hend k hk.le).trans (decide_eq_false hk.ne)⟩
  rw [← List.take_length (l := f), hend _ le_rfl, decide_eq_true rfl]

end Sys2Proof.Machine
end

section
/-! PROOFS. O29, O31: the validator check by check, the step that runs it, and the frames that it accepts whatever their function
code is (R161 to R168). -/

namespace Sys2Proof.Machine

open Sys2Proof

/-! ### The checks of the validator (R161 to R167) -/

theorem validate_empty {b : List Byte} (txn : Txn) (h : b.length = 0) : validate b txn = .error .noResponse := if_pos h

theorem validate_short {b : List Byte} (txn : Txn) (h1 : 1 ≤ b.length) (h3 : b.length ≤ 3) :
    validate b txn = .error .unexpectedLength := by
  rw [validate, if_neg (by omega), if_pos (by omega)]

theorem validate_badCrc {b : List Byte} (txn : Txn) (hlen : 4 ≤ b.length) (h : ¬crcMatches b) :
    validate b txn = .error .crcMismatch := by
  rw [validate, if_neg (by omega), if_neg (by omega), if_pos (crcMatches_iff.not.1 h)]

theorem validate_badAddress {b : List Byte} {txn : Txn} (hlen : 4 ≤ b.length) (hcrc : crcMatches b)
    (h : byteAt b 0 ≠ txn.slave) : validate b txn = .error .addressMismatch := by
  rw [validate, if_neg (by omega), if_neg (by omega), if_neg (not_not.2 (crcMatches_iff.1 hcrc)), if_pos h]

/-- A buffer that passes the checks of R161 to R164. -/
structure FromSlave (b : List Byte) (txn : Txn) : Prop where
  length : 4 ≤ b.length
  crc : crcMatches b
  address : byteAt b 0 = txn.slave

/-- Such a buffer that carries the request's exception marker (R165). -/
theorem validate_exception {b : List Byte} {txn : Txn} (h : FromSlave b txn)
    (hm : (byteAt b 1).toNat = txn.fc.toNat + errBias) :
    validate b txn = if b.length < 5 then .error .unexpectedLength else .error (.slaveException (byteAt b 2)) := by
  have hlen := h.length
  rw [validate, if_neg (by omega), if_neg (by omega), if_neg (not_not.2 (crcMatches_iff.1 h.crc)),
    if_neg (not_not.2 h.address), if_pos hm]
  rfl

/-- Such a buffer in answer to a read (R166). -/
theorem validate_counted {b : List Byte} {txn : Txn} (h : FromSlave b txn)
    (hm : (byteAt b 1).toNat ≠ txn.fc.toNat + errBias) (hc : txn.counted = true) :
    validate b txn = if b.length = 4 ∨ (byteAt b 2).toNat ≠ b.length - 5 then .error .unexpectedLength
      else .ok ((b.drop 3).take (b.length - 5)) := by
  have hlen := h.length
  rw [validate, if_neg (by omega), if_neg (by omega), if_neg (not_not.2 (crcMatches_iff.1 h.crc)),
    if_neg (not_not.2 h.address), if_neg hm, if_pos hc]
  by_cases h4 : b.length = 4
  · rw [if_pos (by omega), if_pos (.inl h4)]
  · rw [if_neg (by omega)]
    simp only [h4, false_or]

/-- Such a buffer in answer to a write (R167). -/
theorem validate_fixed {b : List Byte} {txn : Txn} (h : FromSlave b txn)
    (hm : (byteAt b 1).toNat ≠ txn.fc.toNat + errBias) (hc : txn.counted = false) :
    validate b txn = if b.length ≠ 8 then .error .unexpectedLength else .ok ((b.drop 2).take 4) := by
  have hlen := h.length
  rw [validate, if_neg (by omega), if_neg (by omega), if_neg (not_not.2 (crcMatches_iff.1 h.crc)),
    if_neg (not_not.2 h.address), if_neg hm, if_neg (by rw [hc]; exact Bool.false_ne_true)]
  rfl

/-! ### The step that runs it (R172) -/

theorem busy_of_validating {s : State} {k : ValStep} (hq : s.seq = .validating k) : s.busy = true := by
  rw [State.busy, hq]
  rfl

/-- The check step of an operation's own transaction is the validator's step (R172). -/
theorem exec_check {i : Instr} {s : State} (hq : s.seq = .validating .check) (hf : s.txn.fc = i.functionCode) :
    exec i s = .next (checkStep s) := by
  rw [exec_own (busy_of_validating hq) hf]
  simp only [advance, hq]

theorem checkStep_error {s : State} {e : Err} (h : validate s.rxBytes s.txn = .error e) :
    checkStep s = (s.checkCrc s.rxBytes).raise e := by simp only [checkStep, h]

theorem checkStep_ok {s : State} {p : List Byte} (h : validate s.rxBytes s.txn = .ok p) :
    checkStep s = { s with crc := (checkStep s).crc, seq := .validating (.decode p) } := by
  simp only [checkStep, h, checkCrc_eq]
  rfl

theorem checkStep_failedWith {s : State} {e : Err} (h : validate s.rxBytes s.txn = .error e) :
    (checkStep s).FailedWith e.code e.info := by
  rw [checkStep_error h]
  exact ⟨rfl, rfl, rfl, rfl, rfl⟩

/-- Whatever the outcome, the step writes the CRC accumulator, the result registers and STATE only. -/
theorem checkStep_frame (s : State) : checkStep s =
    { s with crc := (checkStep s).crc, rErr := (checkStep s).rErr, rExc := (checkStep s).rExc, rAck := (checkStep s).rAck,
             rCount := (checkStep s).rCount, seq := (checkStep s).seq } := by
  obtain ⟨e, -, h⟩ | ⟨p, -, h⟩ := checkStep_cases s <;> rw [h, checkCrc_eq] <;> rfl

@[simp] theorem rxBytes_length (s : State) : s.rxBytes.length = s.rxlen := Memory.readList_length _ _ _

/-- Settles O29: the step is `checkStep`, and each clause is the validator's equation for that check. -/
theorem validatorChecksInOrder : Obligations.ValidatorChecksInOrder := by
  intro i s hq hf
  rw [← hf]
  have hlen := rxBytes_length s
  refine ⟨_, exec_check hq hf, checkStep_frame s, fun h0 => ?_, fun h1 h3 => ?_, fun h4 hc => ?_, fun h4 hc ha => ?_,
    fun h4 hc ha hm => ?_, fun h4 hc ha hm hk => ?_, fun h4 hc ha hm hk => ?_⟩
  · exact checkStep_failedWith (validate_empty _ (by omega))
  · exact checkStep_failedWith (validate_short _ (by omega) (by omega))
  · exact checkStep_failedWith (validate_badCrc _ (by omega) hc)
  · exact checkStep_failedWith (validate_badAddress (by omega) hc ha)
  · have hv := validate_exception ⟨by omega, hc, ha⟩ hm
    refine ⟨fun h => checkStep_failedWith (hv.trans (if_pos (by omega))), fun h => ?_⟩
    exact checkStep_failedWith (hv.trans (if_neg (by omega)))
  · have hv := validate_counted ⟨by omega, hc, ha⟩ hm hk
    rw [hlen] at hv
    refine ⟨fun h => checkStep_failedWith (hv.trans (if_pos h)), fun h5 hn => ?_⟩
    exact checkStep_ok (hv.trans (if_neg (by omega)))
  · have hv := validate_fixed ⟨by omega, hc, ha⟩ hm hk
    rw [hlen] at hv
    exact ⟨fun h => checkStep_failedWith (hv.trans (if_pos h)), fun h => checkStep_ok (hv.trans (if_neg (not_not.2 h)))⟩

/-! ### Frames of the polled slave (R60, R168) -/

/-- A message with its own checksum passes the check of the checksum (R163). -/
theorem crcMatches_frame (m : List Byte) : crcMatches (frame m) :=
  (crcMatches_append_pair m _ _).2 (ofHiLo_hi8_lo8 _).symm

/-- A frame that carries the polled slave's address passes the checks before that of the marker, whatever follows. -/
theorem fromSlave_frame (txn : Txn) (fc : Byte) (m : List Byte) : FromSlave (frame (txn.slave :: fc :: m)) txn :=
  ⟨by simp, crcMatches_frame _, rfl⟩

/-- A frame with the count of its data bytes is accepted in answer to a read (R166, R168). -/
theorem validate_frame_counted {txn : Txn} {fc : Byte} {data : List Byte} (hm : fc.toNat ≠ txn.fc.toNat + errBias)
    (hc : txn.counted = true) (hlt : data.length < 256) :
    validate (frame (txn.slave :: fc :: BitVec.ofNat 8 data.length :: data)) txn = .ok data := by
  have hlen : (frame (txn.slave :: fc :: BitVec.ofNat 8 data.length :: data)).length = data.length + 5 := frame_length _
  have hcount : (byteAt (frame (txn.slave :: fc :: BitVec.ofNat 8 data.length :: data)) 2).toNat = data.length :=
    Nat.mod_eq_of_lt hlt
  rw [validate_counted (fromSlave_frame txn fc _) hm hc, if_neg (by omega), hlen]
  simp [frame]

/-- A frame with four data bytes is accepted in answer to a write (R167, R168). -/
theorem validate_frame_fixed {txn : Txn} {fc : Byte} {data : List Byte} (hm : fc.toNat ≠ txn.fc.toNat + errBias)
    (hc : txn.counted = false) (h4 : data.length = 4) : validate (frame (txn.slave :: fc :: data)) txn = .ok data := by
  have hlen : (frame (txn.slave :: fc :: data)).length = 8 := by simp [h4]
  rw [validate_fixed (fromSlave_frame txn fc _) hm hc, if_neg (not_not.2 hlen)]
  simp [frame, ← h4]

/-- Settles O31: the validator looks at the function code for the exception marker only, and the length fits. -/
theorem foreignFunctionCodeIsAccepted : Obligations.ForeignFunctionCodeIsAccepted := fun _ _ _ hm =>
  ⟨validate_frame_counted hm, validate_frame_fixed hm⟩

end Sys2Proof.Machine
end

section
/-! PROOFS. Runs over a schedule of turns, and the part that every whole transaction shares: from the host's GO to the check of a
response that arrives in one piece (R131 to R137, R171, R172). -/

namespace Sys2Proof.Machine

open Sys2Proof

/-! ### Runs over a schedule (log 5) -/

theorem run_add {m : Nat} {s t : State} (h : Host.Core.run core m s = .next t) (n : Nat) :
    Host.Core.run core (m + n) s = Host.Core.run core n t := by
  induction m generalizing s with
  | zero =>
    injection h with h
    rw [h, Nat.zero_add]
  | succ m ih =>
    rw [Nat.succ_add]
    cases hs : step s with
    | next s' =>
      rw [run_succ hs] at h
      rw [run_succ hs, ih h]
    | fault r => simp [Host.Core.run, show core.step s = .fault r from hs] at h
    | refused r => simp [Host.Core.run, show core.step s = .refused r from hs] at h

/-- The state with other turns still to be taken. -/
def State.withAgenda (ag : List Turn) (s : State) : State := { s with agenda := ag }

/-- The turns `us` lead from `s` to `t`, whatever turns come after them; the agendas of `s` and `t` themselves do not count. -/
def Reaches (us : List Turn) (s t : State) : Prop :=
  ∀ rest, Host.Core.run core us.length (s.withAgenda (us ++ rest)) = .next (t.withAgenda rest)

theorem Reaches.append {us vs : List Turn} {s t u : State} (h : Reaches us s t) (h' : Reaches vs t u) :
    Reaches (us ++ vs) s u := by
  intro rest
  rw [List.length_append, List.append_assoc, run_add (h (vs ++ rest)), h' rest]

theorem Reaches.cons {a : Turn} {us : List Turn} {s t u : State} (h : Reaches [a] s t) (h' : Reaches us t u) :
    Reaches (a :: us) s u := h.append h'

theorem Reaches.turn {a : Turn} {s t : State} (h : ∀ ag, takeTurn a (s.withAgenda ag) = .next (t.withAgenda ag)) :
    Reaches [a] s t := fun rest =>
  run_succ ((step_of_agenda (s := s.withAgenda ([a] ++ rest)) rfl).trans (h rest)) 0

theorem reaches_env (a : EnvAct) (s : State) : Reaches [.env a] s (envTurn a s) := .turn fun _ => by cases a <;> rfl

theorem reaches_rest {s : State} (hb : s.busy = false) : Reaches [.engine] s s :=
  .turn fun ag => engineTurn_rest (s := s.withAgenda ag) hb

/-- The host's GO of an accepted operation at rest (R15, R171). -/
theorem reaches_go {i : Instr} {s : State} (hb : s.busy = false) (hf : s.fetchCommand = some i)
    (hwf : i.wf s.cfg.wmcQtyMax = true) : Reaches [.host (.writeReg ctrlReg 1#16)] s
      (go (callOperands i s.operands) (.ok (encodeBody i).tail) s) := .turn fun ag => by
  refine (hostTurn_go (v := 1#16) rfl).trans ((goTurn_rest (s := s.withAgenda ag) hb hf).trans ?_)
  rw [exec_rest (s := s.withAgenda ag) hb, encodeRule_of_wf (c := (s.withAgenda ag).cfg) hwf]
  rfl

/-- The engine's turn is the step of the operation that TXN describes (R32, R172). -/
theorem reaches_engine {i : Instr} {s t : State} (hb : s.busy = true) (hf : s.fetchTxn = some i)
    (h : ∀ ag, exec i (s.withAgenda ag) = .next (t.withAgenda ag)) : Reaches [.engine] s t :=
  .turn fun ag => (engineTurn_running (s := s.withAgenda ag) hb hf).trans (h ag)

/-! ### Sending (R131 to R136) -/

theorem busy_of_awaitingResponse {s : State} {k : RecvStep} (hq : s.seq = .awaitingResponse k) : s.busy = true := by
  rw [State.busy, hq]
  rfl

section
variable {i : Instr} {s : State} (hf : s.fetchTxn = some i)
include hf

theorem reaches_build {pdu : List Byte} (hq : s.seq = .sending (.build pdu)) : Reaches [.engine] s (buildAdu pdu s) :=
  reaches_engine (busy_of_sending hq) hf fun ag => by
    rw [exec_sending (s := s.withAgenda ag) hq (fetchTxn_functionCode hf), sendStep, buildAdu_eq, buildAdu_eq]
    rfl

theorem reaches_drain (hq : s.seq = .sending .drain) : Reaches [.engine] s
    { s with rxq := [], events := s.events ++ [.flushRx], seq := .sending (if s.cfg.dePresent then .assertDe else .write) } :=
  reaches_engine (busy_of_sending hq) hf fun ag =>
    drainDiscardsTheQueue _ (s.withAgenda ag) hq (fetchTxn_functionCode hf)

theorem reaches_enter (hq : s.seq = .awaitingResponse .enter) : Reaches [.engine] s
    { s with rxlen := 0, tStart := s.now, tLast := s.now, seq := .awaitingResponse .readNow } :=
  reaches_engine (busy_of_awaitingResponse hq) hf fun ag =>
    (enterReceiveLoop _ (s.withAgenda ag) hq (fetchTxn_functionCode hf)).1

theorem reaches_write_noDe (hd : s.cfg.dePresent = false) (hq : s.seq = .sending .write) : Reaches [.engine] s
    { s with txDone := false, events := s.events ++ [.write s.txBytes], seq := .awaitingResponse .enter } :=
  reaches_engine (busy_of_sending hq) hf fun ag =>
    (transmitSteps i (s.withAgenda ag) (fetchTxn_functionCode hf)).2 hd hq

section
variable (hd : s.cfg.dePresent = true)
include hd

theorem reaches_assertDe (hq : s.seq = .sending .assertDe) : Reaches [.engine] s
    { s with de := true, events := s.events ++ [.de true], seq := .sending .write } :=
  reaches_engine (busy_of_sending hq) hf fun ag => by
    obtain ⟨hassert, -⟩ := (transmitSteps i (s.withAgenda ag) (fetchTxn_functionCode hf)).1 hd
    exact hassert hq

theorem reaches_write (hq : s.seq = .sending .write) : Reaches [.engine] s
    { s with txDone := false, events := s.events ++ [.write s.txBytes], seq := .sending .awaitDone } :=
  reaches_engine (busy_of_sending hq) hf fun ag => by
    obtain ⟨-, hwrite, -⟩ := (transmitSteps i (s.withAgenda ag) (fetchTxn_functionCode hf)).1 hd
    exact hwrite hq

theorem reaches_doneSeen (hq : s.seq = .sending .awaitDone) (ht : s.txDone = true) : Reaches [.engine] s
    { s with seq := .sending .releaseDe } :=
  reaches_engine (busy_of_sending hq) hf fun ag => by
    obtain ⟨-, -, -, hseen, -⟩ := (transmitSteps i (s.withAgenda ag) (fetchTxn_functionCode hf)).1 hd
    exact hseen hq ht

theorem reaches_releaseDe (hq : s.seq = .sending .releaseDe) : Reaches [.engine] s
    { s with de := false, events := s.events ++ [.de false], seq := .awaitingResponse .enter } :=
  reaches_engine (busy_of_sending hq) hf fun ag => by
    obtain ⟨-, -, -, -, hrelease⟩ := (transmitSteps i (s.withAgenda ag) (fetchTxn_functionCode hf)).1 hd
    exact hrelease hq

end

/-- From the drain to the receive loop, on the schedule that `sendTurns` goes on with after the build (R132 to R134, R136). -/
theorem reaches_sent (hq : s.seq = .sending .drain) : Reaches (sendTurns s.cfg.dePresent).tail s
    { s with rxq := [], events := s.events ++ sendEvents s.cfg.dePresent s.txBytes, txDone := s.cfg.dePresent
             de := if s.cfg.dePresent then false else s.de
             rxlen := 0, tStart := s.now, tLast := s.now, seq := .awaitingResponse .readNow } := by
  have hdrain := reaches_drain hf hq
  cases hd : s.cfg.dePresent <;> rw [hd] at hdrain
  · have hev : s.events ++ sendEvents false s.txBytes = s.events ++ [PortEvent.flushRx] ++ [PortEvent.write s.txBytes] := by
      simp [sendEvents]
    rw [hev]
    exact hdrain.cons (Reaches.cons (reaches_write_noDe hf hd rfl) (reaches_enter hf rfl))
  · have hev : s.events ++ sendEvents true s.txBytes =
        s.events ++ [PortEvent.flushRx] ++ [PortEvent.de true] ++ [PortEvent.write s.txBytes] ++ [PortEvent.de false] := by
      simp [sendEvents]
    rw [hev]
    refine hdrain.cons (Reaches.cons (reaches_assertDe hf hd rfl) (Reaches.cons (reaches_write hf hd rfl) ?_))
    refine Reaches.cons (reaches_env EnvAct.txDone _) (Reaches.cons (reaches_doneSeen hf hd rfl rfl) ?_)
    exact Reaches.cons (reaches_releaseDe hf hd rfl) (reaches_enter hf rfl)

end

theorem sendTurns_eq (d : Bool) : sendTurns d = .engine :: (sendTurns d).tail := by cases d <;> rfl

/-- The state after GO of an accepted operation and the build: TXBUF holds its request (R131, R171). -/
def State.built (i : Instr) (s : State) : State :=
  { s with
    rErr := .none, rExc := 0#8, rAck := false, rCount := 0#16, txn := (callOperands i s.operands).latch
    crc := crc16 (encodeBody i), txbuf := Memory.writeList 0 (encode i) s.txbuf, txlen := (encode i).length
    seq := .sending .drain }

theorem buildAdu_go (i : Instr) (s : State) :
    buildAdu (encodeBody i).tail (go (callOperands i s.operands) (.ok (encodeBody i).tail) s) = s.built i := by
  have hbody : (go (callOperands i s.operands) (.ok (encodeBody i).tail) s).txn.slave :: (encodeBody i).tail = encodeBody i :=
    slave_cons_tail_encodeBody i s.operands
  rw [buildAdu_eq, hbody]
  rfl

theorem built_txBytes (i : Instr) {s : State} (hw : Memory.wf s.txbuf = true) : (s.built i).txBytes = encode i :=
  Memory.readList_writeList 0 _ hw

/-- The state in which the receive loop starts after operation `i` was sent from `s`, `SER.tx_done` raised where R133 waits
for it (R132 to R136). -/
def State.listening (i : Instr) (s : State) : State :=
  { s.built i with
    rxq := [], events := s.events ++ sendEvents s.cfg.dePresent (encode i), txDone := s.cfg.dePresent
    de := if s.cfg.dePresent then false else s.de
    rxlen := 0, tStart := s.now, tLast := s.now, seq := .awaitingResponse .readNow }

/-- From GO of an accepted operation to the receive loop. -/
theorem reaches_listening {i : Instr} {s : State} (hb : s.busy = false) (hf : s.fetchCommand = some i)
    (hwf : i.wf s.cfg.wmcQtyMax = true) (hw : Memory.wf s.txbuf = true) :
    Reaches (.host (.writeReg ctrlReg 1#16) :: sendTurns s.cfg.dePresent) s (s.listening i) := by
  have fetched := fetchTxn_latch hf (.sending (.build (encodeBody i).tail)) .none 0#8 false 0#16
  have built : Reaches [.engine] (go (callOperands i s.operands) (.ok (encodeBody i).tail) s) (s.built i) := by
    rw [← buildAdu_go]
    exact reaches_build fetched rfl
  have sent := reaches_sent (s := s.built i) fetched rfl
  rw [built_txBytes i hw] at sent
  rw [sendTurns_eq]
  exact .cons (reaches_go hb hf hwf) (.cons built sent)

/-! ### A response in one piece (R137) -/

/-- The state in which a complete response `resp` is checked: RXBUF holds it. -/
def State.received (resp : List Byte) (s : State) : State :=
  { s with
    rxq := [], events := s.events ++ [.read resp], rxbuf := Memory.writeList 0 resp s.rxbuf, rxlen := resp.length
    tLast := s.now, seq := .validating .check }

theorem received_rxBytes (resp : List Byte) {s : State} (hw : Memory.wf s.rxbuf = true) : (s.received resp).rxBytes = resp :=
  Memory.readList_writeList 0 resp hw

/-- The first poll takes a complete response whole. -/
theorem pollStep_complete {s : State} (h0 : s.rxlen = 0) (hw : Memory.wf s.rxbuf = true) (hc : complete s.rxq = true)
    (hcap : s.rxq.length ≤ s.cfg.rxCap) : pollStep s.now s = s.received s.rxq := by
  have hne : s.rxq ≠ [] := fun he => by rw [he] at hc; exact nomatch hc
  have htake : s.rxq.take s.pollTake = s.rxq := List.take_of_length_le (by simp [State.pollTake, State.serAny, h0, hcap])
  have hrx : (s.pollAppend s.now).rxBytes = s.rxq := by
    rw [pollAppend_rxBytes _ hw, rxBytes_of_empty h0, htake, List.nil_append]
  have hdrop : s.rxq.drop s.pollTake = [] := by simp [State.pollTake, State.serAny, h0, hcap]
  rw [pollStep_read _ hne, if_pos (.inl (by rw [hrx]; exact hc)), pollAppend_eq, htake, hdrop, h0, Nat.zero_add]
  rfl

theorem reaches_readNow {i : Instr} {s : State} (hf : s.fetchTxn = some i) (hq : s.seq = .awaitingResponse .readNow) :
    Reaches [.engine] s { s with seq := .awaitingResponse (.poll s.now) } :=
  reaches_engine (busy_of_awaitingResponse hq) hf fun ag =>
    (receiveLoopIteration i (s.withAgenda ag) (fetchTxn_functionCode hf)).1 hq

theorem reaches_poll {i : Instr} {s : State} (hf : s.fetchTxn = some i) (hq : s.seq = .awaitingResponse (.poll s.now))
    (h0 : s.rxlen = 0) (hw : Memory.wf s.rxbuf = true) (hc : complete s.rxq = true) (hcap : s.rxq.length ≤ s.cfg.rxCap) :
    Reaches [.engine] s (s.received s.rxq) :=
  reaches_engine (busy_of_awaitingResponse hq) hf fun ag =>
    (exec_awaitingResponse (s := s.withAgenda ag) hq (fetchTxn_functionCode hf)).trans
      (congrArg _ (pollStep_complete (s := s.withAgenda ag) h0 hw hc hcap))

/-- From GO of an accepted operation to the check of a complete response that fits RXBUF. -/
theorem reaches_check {i : Instr} {s : State} {resp : List Byte} (hb : s.busy = false) (hf : s.fetchCommand = some i)
    (hwf : i.wf s.cfg.wmcQtyMax = true) (htx : Memory.wf s.txbuf = true) (hrx : Memory.wf s.rxbuf = true)
    (hc : complete resp = true) (hcap : resp.length ≤ s.cfg.rxCap) :
    Reaches (Turn.host (.writeReg ctrlReg 1#16) :: sendTurns s.cfg.dePresent ++
      [Turn.env (.receive resp), Turn.engine, Turn.engine]) s
      ((s.listening i).received resp) := by
  have fetched : (s.listening i).fetchTxn = some i := fetchTxn_latch hf (s.listening i).seq .none 0#8 false 0#16
  refine (reaches_listening hb hf hwf htx).append (.cons (reaches_env (.receive resp) _) ?_)
  exact .cons (reaches_readNow fetched rfl) (reaches_poll fetched rfl rfl hrx hc hcap)

/-! ### A whole transaction (R172) -/

theorem oneShot_eq (d : Bool) (resp : List Byte) : oneShot d resp =
    Turn.host (.writeReg ctrlReg 1#16) :: sendTurns d ++ [Turn.env (.receive resp), Turn.engine, Turn.engine] ++
      [Turn.engine, Turn.engine] := by
  simp [oneShot]

theorem received_fetchTxn {i : Instr} {s : State} (hf : s.fetchCommand = some i) (resp : List Byte) :
    ((s.listening i).received resp).fetchTxn = some i := fetchTxn_latch hf (.validating .check) .none 0#8 false 0#16

/-- An accepted call, once loaded, is what GO fetches. -/
theorem fetchCommand_calling {i : Instr} {s : State} (g : Bool) (hcfg : s.cfg.valid = true) (hbuf : BufferInv s)
    (hwf : i.wf s.cfg.wmcQtyMax = true) : (s.loadCall i g).fetchCommand = some i := by
  obtain ⟨-, -, -, -, -, hmax⟩ := (cfg_valid_iff _).1 hcfg
  exact fetchCommand_loadCall g hbuf.wcoil.1 hbuf.wreg.1 hbuf.writtenCoils.1 hbuf.writtenRegs.1 (wf_mono hmax hwf)

/-- The call of an accepted operation with a complete response runs to where the check and one more turn of the engine lead. -/
theorem runAgenda_calling {i : Instr} {s t : State} {g : Bool} {resp : List Byte} (hb : s.busy = false)
    (hcfg : s.cfg.valid = true) (hbuf : BufferInv s) (hwf : i.wf s.cfg.wmcQtyMax = true) (hc : complete resp = true)
    (hlen : resp.length ≤ 260) (h : Reaches [.engine, .engine] (((s.loadCall i g).listening i).received resp) t) :
    (s.calling i g resp).runAgenda = .next (t.withAgenda []) := by
  obtain ⟨-, -, -, hcap, -⟩ := (cfg_valid_iff _).1 hcfg
  have checked := reaches_check (s := s.loadCall i g) hb (fetchCommand_calling g hcfg hbuf hwf) hwf hbuf.txbuf.1 hbuf.rxbuf.1 hc
    (hlen.trans hcap)
  have hrun := checked.append h []
  rw [List.append_nil] at hrun
  rw [State.calling, oneShot_eq]
  exact hrun

end Sys2Proof.Machine
end

section
/-! PROOFS. O41: an exception response ends its operation with the slave's code (R70, R165, R195, R196). -/

namespace Sys2Proof.Machine

open Sys2Proof

/-- The operand registers that an operation does not name play no part in its slave address (R10). -/
theorem callOperands_slave (i : Instr) (x y : Operands) : (callOperands i x).slave = (callOperands i y).slave := by
  cases i <;> rfl

/-- The exception marker of a request fits its byte (R70). -/
theorem exceptionMarker_toNat {fc : Byte} (h : knownFunction fc = true) :
    (BitVec.ofNat 8 (fc.toNat + errBias)).toNat = fc.toNat + errBias := by
  obtain rfl | rfl | rfl | rfl | rfl | rfl | rfl | rfl := (knownFunction_iff fc).1 h <;> rfl

/-- The exception frame of the polled slave to the request's own code is rejected with the slave's code (R165). -/
theorem validate_rspExc {txn : Txn} (h : knownFunction txn.fc = true) (code : Byte) :
    validate (rspExc txn.slave txn.fc code) txn = .error (.slaveException code) :=
  validate_exception (fromSlave_frame txn _ _) (exceptionMarker_toNat h)

/-- A check that rejects ends the transaction (R172, R196). -/
theorem reaches_reject {i : Instr} {s : State} {e : Err} (hf : s.fetchTxn = some i) (hq : s.seq = .validating .check)
    (hv : validate s.rxBytes s.txn = .error e) : Reaches [.engine] s ((s.checkCrc s.rxBytes).raise e) :=
  reaches_engine (busy_of_validating hq) hf fun ag => by
    rw [exec_check (s := s.withAgenda ag) hq (fetchTxn_functionCode hf), checkStep_error (s := s.withAgenda ag) hv, checkCrc_eq,
      checkCrc_eq]
    rfl

theorem complete_rspExc (i : Instr) (slave code : Byte) : complete (rspExc slave i.functionCode code) = true :=
  (responseFramesCompleteExactlyAtTheirEnd _ (.inr (.inr (.inr ⟨_, _, _, knownFunction_functionCode i, rfl⟩)))).1

/-- Settles O41: the response is checked as it came, and the check raises the slave's code. -/
theorem exceptionResponseTransaction : Obligations.ExceptionResponseTransaction := by
  intro s i g code hb hcfg hbuf hwf
  rw [callOperands_slave i s.x (s.loadCall i g).operands]
  set resp := rspExc (callOperands i (s.loadCall i g).operands).slave i.functionCode code
  set r := ((s.loadCall i g).listening i).received resp
  have fetched : r.fetchTxn = some i := received_fetchTxn (fetchCommand_calling g hcfg hbuf hwf) resp
  have hfc : r.txn.fc = i.functionCode := fetchTxn_functionCode fetched
  have hv : validate r.rxBytes r.txn = .error (.slaveException code) := by
    rw [received_rxBytes resp (s := (s.loadCall i g).listening i) hbuf.rxbuf.1,
      show resp = rspExc r.txn.slave r.txn.fc code by rw [hfc]; rfl]
    exact validate_rspExc (hfc ▸ knownFunction_functionCode i) code
  refine ⟨_, runAgenda_calling hb hcfg hbuf hwf (complete_rspExc i _ code) (show 5 ≤ 260 by decide)
    (.cons (reaches_reject fetched rfl hv) (reaches_rest rfl)), ⟨rfl, rfl, rfl, rfl, rfl⟩, ?_, ?_⟩ <;>
    rw [checkCrc_eq] <;> rfl

end Sys2Proof.Machine
end

section
/-! PROOFS. O16: a host write while a transaction runs (R11, R12, R181). -/

namespace Sys2Proof.Machine

open Sys2Proof

/-- A write to a register while BUSY, GO included, is ignored (R11, R181, log 12). -/
theorem hostTurn_writeReg_busy {s : State} (hb : s.busy = true) {n : Nat} (hn : regExists n = true) (v : Word) :
    hostTurn (.writeReg n v) s = .next s := by
  by_cases hgo : n = 8 ∧ v.getLsbD 0 = true
  · obtain ⟨rfl, hv⟩ := hgo
    rw [hostTurn_go hv, goTurn, if_pos hb]
  · rw [hostTurn_writeReg hn hgo, State.hostWriteReg, if_pos hb]

/-- A write to an element of a window while BUSY is ignored (R12). -/
theorem hostTurn_writeElem_busy {s : State} (hb : s.busy = true) {w : Window} {k : Nat} (hk : k < s.windowCap w) (v : Word) :
    hostTurn (.writeElem w k v) s = .next s := by
  rw [hostTurn_writeElem hk, State.hostWriteElem, if_pos hb]

/-- Settles O16: neither kind of host write does anything while BUSY. -/
theorem hostWritesWhileBusyAreIgnored : Obligations.HostWritesWhileBusyAreIgnored := by
  intro s rest v hb
  have elem : ∀ (w : Window) (k : Nat), k < s.windowCap w → s.agenda = .host (.writeElem w k v) :: rest →
      step s = .next { s with agenda := rest } := fun w k hk ha => by
    rw [step_host ha]
    exact hostTurn_writeElem_busy (s := { s with agenda := rest }) hb hk v
  refine ⟨fun n hn ha => ?_, elem .wcoil, elem .wreg, elem .rbits, elem .rregs⟩
  rw [step_host ha]
  exact hostTurn_writeReg_busy (s := { s with agenda := rest }) hb ((regExists_iff n).2 hn) v

end Sys2Proof.Machine
end

section
/-! PROOFS. O37 to O40: a whole transaction whose response the validator accepts, up to the operation's decode rule
(R113 to R116, R166, R167, R172 to R180). -/

namespace Sys2Proof.Machine

open Sys2Proof

/-! ### From the check to the end (R172) -/

/-- A check that accepts goes on to the decode (R172). -/
theorem reaches_accept {i : Instr} {s : State} {p : List Byte} (hf : s.fetchTxn = some i) (hq : s.seq = .validating .check)
    (hv : validate s.rxBytes s.txn = .ok p) :
    Reaches [.engine] s ((s.checkCrc s.rxBytes).goto (.validating (.decode p))) :=
  reaches_engine (busy_of_validating hq) hf fun ag => by
    rw [exec_check (s := s.withAgenda ag) hq (fetchTxn_functionCode hf), checkStep,
      show validate (s.withAgenda ag).rxBytes (s.withAgenda ag).txn = .ok p from hv, checkCrc_eq, checkCrc_eq]
    rfl

/-- A decode rule does not look at the turns to come (log 5). -/
theorem decodeRule_withAgenda (i : Instr) (p : List Byte) (s : State) (ag : List Turn) :
    decodeRule i p (s.withAgenda ag) = (decodeRule i p s).withAgenda ag := by
  have bits : decodeBits p (s.withAgenda ag) = (decodeBits p s).withAgenda ag := by
    by_cases hp : p.length = ceilDiv s.txn.qty.toNat 8
    · rw [decodeBits_ok hp, decodeBits_ok (s := s.withAgenda ag) hp]; rfl
    · rw [decodeBits_badLength hp, decodeBits_badLength (s := s.withAgenda ag) hp]; rfl
  have regs : decodeRegs p (s.withAgenda ag) = (decodeRegs p s).withAgenda ag := by
    by_cases hp : p.length = 2 * s.txn.qty.toNat
    · rw [decodeRegs_ok hp, decodeRegs_ok (s := s.withAgenda ag) hp]; rfl
    · rw [decodeRegs_badLength hp, decodeRegs_badLength (s := s.withAgenda ag) hp]; rfl
  cases i with
  | readCoils | readDiscreteInputs => exact bits
  | readHoldingRegisters | readInputRegisters => exact regs
  | _ => rfl

theorem reaches_decode {i : Instr} {s : State} {p : List Byte} (hf : s.fetchTxn = some i)
    (hq : s.seq = .validating (.decode p)) : Reaches [.engine] s (decodeRule i p s) :=
  reaches_engine (busy_of_validating hq) hf fun ag => by
    rw [exec_decode (s := s.withAgenda ag) hq (fetchTxn_functionCode hf), decodeRule_withAgenda]

/-- The state after the response `resp` to operation `i`, started in `s`, was accepted with payload `p` (R169, R172). -/
def State.accepted (i : Instr) (resp p : List Byte) (s : State) : State :=
  { (s.listening i).received resp with
    crc := (((s.listening i).received resp).checkCrc resp).crc, seq := .validating (.decode p) }

theorem checkCrc_goto_decode (i : Instr) (resp p : List Byte) (s : State) :
    (((s.listening i).received resp).checkCrc resp).goto (.validating (.decode p)) = s.accepted i resp p := by
  rw [State.accepted, checkCrc_eq]
  rfl

/-- The call of an accepted operation whose response passes the validator runs to where its decode rule leads. -/
theorem runAgenda_accepted {i : Instr} {s : State} {g : Bool} {resp p : List Byte} (hb : s.busy = false)
    (hcfg : s.cfg.valid = true) (hbuf : BufferInv s) (hwf : i.wf s.cfg.wmcQtyMax = true) (hc : complete resp = true)
    (hlen : resp.length ≤ 260) (hv : validate resp (callOperands i (s.loadCall i g).operands).latch = .ok p) :
    (s.calling i g resp).runAgenda = .next ((decodeRule i p ((s.loadCall i g).accepted i resp p)).withAgenda []) := by
  have fetched := received_fetchTxn (fetchCommand_calling g hcfg hbuf hwf) resp
  have hrx : (((s.loadCall i g).listening i).received resp).rxBytes = resp := received_rxBytes resp hbuf.rxbuf.1
  have check := reaches_accept (p := p) fetched rfl (by rw [hrx]; exact hv)
  rw [hrx, checkCrc_goto_decode] at check
  exact runAgenda_calling hb hcfg hbuf hwf hc hlen
    (check.cons (reaches_decode ((State.fetchTxn_congr rfl rfl rfl rfl rfl).trans fetched) rfl))

/-! ### The two shapes of a response (R66 to R68) -/

theorem CompleteAtEnd.complete {f : List Byte} (h : CompleteAtEnd f) : complete f = true := by
  rw [← List.take_length (l := f), h _ le_rfl, decide_eq_true rfl]

/-- No code is its own exception marker (R165). -/
theorem functionCode_ne_marker (i : Instr) (x : Operands) :
    i.functionCode.toNat ≠ (callOperands i x).latch.fc.toNat + errBias := by
  rw [show (callOperands i x).latch.fc = i.functionCode from callOperands_fc i x, errBias]
  omega

/-- GO latches whether the operation's response is counted (R32, R171). -/
theorem latch_counted (i : Instr) (x : Operands) : (callOperands i x).latch.counted = countPrefixed i.functionCode := by
  rw [Operands.latch, callOperands_fc]

theorem readCode_of_counted {i : Instr} (h : countPrefixed i.functionCode = true) :
    i.functionCode = 0x01#8 ∨ i.functionCode = 0x02#8 ∨ i.functionCode = 0x03#8 ∨ i.functionCode = 0x04#8 := by
  cases i with
  | readCoils | readDiscreteInputs | readHoldingRegisters | readInputRegisters => simp [Instr.functionCode]
  | _ => exact nomatch h

theorem writeCode_of_not_counted {i : Instr} (h : countPrefixed i.functionCode = false) :
    i.functionCode = 0x05#8 ∨ i.functionCode = 0x06#8 ∨ i.functionCode = 0x0F#8 ∨ i.functionCode = 0x10#8 := by
  cases i with
  | readCoils | readDiscreteInputs | readHoldingRegisters | readInputRegisters => exact nomatch h
  | _ => simp [Instr.functionCode]

/-- A counted frame of the polled slave with the request's own code is accepted in answer to a read (R66, R67, R166). -/
theorem validate_rspBits {i : Instr} (hread : countPrefixed i.functionCode = true) (x : Operands) {data : List Byte}
    (hlt : data.length < 256) :
    validate (rspBits (callOperands i x).slave i.functionCode data) (callOperands i x).latch = .ok data := by
  have hcounted : (callOperands i x).latch.counted = true := by rw [latch_counted, hread]
  exact validate_frame_counted (txn := (callOperands i x).latch) (functionCode_ne_marker i x) hcounted hlt

/-- An echo frame of the polled slave with the request's own code is accepted in answer to a write (R68, R167). -/
theorem validate_rspEcho {i : Instr} (hwrite : countPrefixed i.functionCode = false) (x : Operands) (a v : Word) :
    validate (rspEcho (callOperands i x).slave i.functionCode a v) (callOperands i x).latch = .ok (be16 a ++ be16 v) := by
  have hcounted : (callOperands i x).latch.counted = false := by rw [latch_counted, hwrite]
  exact validate_frame_fixed (txn := (callOperands i x).latch) (functionCode_ne_marker i x) hcounted rfl

/-- A read answered by its own slave with a counted frame gets the frame's data bytes (R66, R67). -/
theorem runAgenda_read {i : Instr} {s : State} {g : Bool} {sl : Byte} {data : List Byte} (hb : s.busy = false)
    (hcfg : s.cfg.valid = true) (hbuf : BufferInv s) (hwf : i.wf s.cfg.wmcQtyMax = true)
    (hread : countPrefixed i.functionCode = true)
    (hsl : (callOperands i (s.loadCall i g).operands).slave = sl) (hlen : data.length ≤ 250) :
    (s.calling i g (rspBits sl i.functionCode data)).runAgenda =
      .next ((decodeRule i data ((s.loadCall i g).accepted i (rspBits sl i.functionCode data) data)).withAgenda []) := by
  have hcomplete : CompleteAtEnd (rspBits sl i.functionCode data) :=
    completeAtEnd_counted (readCode_of_counted hread) rfl (by omega)
  have hfits : (rspBits sl i.functionCode data).length ≤ 260 := by
    simp only [rspBits, frame_length, List.length_append, List.length_cons, List.length_nil]
    omega
  refine runAgenda_accepted hb hcfg hbuf hwf hcomplete.complete hfits ?_
  rw [← hsl]
  exact validate_rspBits hread _ (by omega)

/-- A write answered by its own slave with an echo frame gets the two fields of the echo (R68). -/
theorem runAgenda_write {i : Instr} {s : State} {g : Bool} {sl : Byte} (hb : s.busy = false)
    (hcfg : s.cfg.valid = true) (hbuf : BufferInv s) (hwf : i.wf s.cfg.wmcQtyMax = true)
    (hwrite : countPrefixed i.functionCode = false)
    (hsl : (callOperands i (s.loadCall i g).operands).slave = sl) (a v : Word) :
    (s.calling i g (rspEcho sl i.functionCode a v)).runAgenda = .next ((decodeRule i (be16 a ++ be16 v)
      ((s.loadCall i g).accepted i (rspEcho sl i.functionCode a v) (be16 a ++ be16 v))).withAgenda []) := by
  have hcomplete := completeAtEnd_echo (slave := sl) (writeCode_of_not_counted hwrite) a v
  refine runAgenda_accepted hb hcfg hbuf hwf hcomplete.complete (show 8 ≤ 260 by decide) ?_
  rw [← hsl]
  exact validate_rspEcho hwrite _ a v

/-! ### The two reads (R173 to R176) -/

/-- A list written from element 0 reads back element by element. -/
theorem read_writeList_getElem {α : Type} [Inhabited α] [DecidableEq α] (vs : List α) {m : List (Nat × α)}
    (h : Memory.wf m = true) {j : Nat} (hj : j < vs.length) : Memory.read (Memory.writeList 0 vs m) j = vs[j] := by
  rw [Memory.read_writeList 0 vs h, if_pos (by omega), Nat.sub_zero, List.getD_eq_getElem _ _ hj]

/-- Bytes that report `bits`, whatever is in their padding, unpack to them (R112, D29). -/
theorem unpackBits_eq {data : List Byte} {bits : List Bool}
    (h : ∀ j (hj : j < bits.length), (byteAt data (j / 8)).getLsbD (j % 8) = bits[j]) : unpackBits data bits.length = bits := by
  apply List.ext_getElem (unpackBits_length _ _)
  intro j _ hj
  simpa [unpackBits] using h j hj

/-- Settles O37: the payload of the response unpacks to the slave's bits, and below `R_COUNT` the host finds results. -/
theorem bitReadTransaction : Obligations.BitReadTransaction := by
  intro s i g sl a bits data hi hb hcfg hbuf h1 hmax hdata hbits
  have hq : (BitVec.ofNat 16 bits.length).toNat = bits.length := BitVec.toNat_eq_nat.2 ⟨by omega, rfl⟩
  obtain ⟨hrule, hfc, hcounted, hsl, hqty, hwf⟩ : decodeRule i = decodeBits ∧
      (i.functionCode = 0x01#8 ∨ i.functionCode = 0x02#8) ∧ countPrefixed i.functionCode = true ∧
      (callOperands i (s.loadCall i g).operands).slave = sl ∧
      (callOperands i (s.loadCall i g).operands).qty = BitVec.ofNat 16 bits.length ∧ i.wf s.cfg.wmcQtyMax = true := by
    obtain rfl | rfl := hi
    · exact ⟨rfl, .inl rfl, rfl, rfl, rfl, (wf_readCoils _ _ _ _).2 (by omega)⟩
    · exact ⟨rfl, .inr rfl, rfl, rfl, rfl, (wf_readDiscreteInputs _ _ _ _).2 (by omega)⟩
  have hbytes : data.length ≤ 250 := by rw [hdata, ceilDiv]; omega
  have hrun := runAgenda_read (data := data) hb hcfg hbuf hwf hcounted hsl hbytes
  set r := (s.loadCall i g).accepted i (rspBits sl i.functionCode data) data
  have hrqty : r.txn.qty = BitVec.ofNat 16 bits.length := hqty
  have hrfc : r.txn.fc = i.functionCode := callOperands_fc i _
  rw [hrule, decodeBits_ok (by rw [hrqty, hq, hdata]), hrqty, hq, unpackBits_eq hbits] at hrun
  refine ⟨_, hrun, rfl, rfl, rfl, rfl, hq, fun j hj => ?_, rfl, rfl, rfl⟩
  have hread : Memory.read (Memory.writeList 0 bits r.rbits) j = bits[j] := read_writeList_getElem bits hbuf.rbits.1 hj
  have hres := completeBits_isResult (s := r) (count := BitVec.ofNat 16 bits.length) bits (by rwa [hq]) (by rwa [hrfc])
  refine ⟨hread, (hostReadElem_rbits (s := State.withAgenda [] _) hres).trans ?_⟩
  rw [← hread]
  rfl

/-- The normal response to a register read is a counted frame of the packed registers (R67). -/
theorem rspRegs_eq (sl fc : Byte) (regs : List Word) : rspRegs sl fc regs = rspBits sl fc (packRegs regs) := by
  rw [rspRegs, rspBits, packRegs_length]

/-- The reading of a register signed or unsigned, as the host has it (R8, R114). -/
theorem signed_or_unsigned (g : Bool) (v : Word) : (if g = true then sext16 v else zext16 v) =
    if g = false ∨ v.toNat < 0x8000 then (v.toNat : Int) else (v.toNat : Int) - 0x10000 := by
  cases g <;> simp [sext16, zext16]

/-- Settles O38: the payload of the response unpacks to the slave's registers, and TXN keeps the call's `signed=`. -/
theorem registerReadTransaction : Obligations.RegisterReadTransaction := by
  intro s i g sl a regs hi hb hcfg hbuf h1 hmax
  have hq : (BitVec.ofNat 16 regs.length).toNat = regs.length := BitVec.toNat_eq_nat.2 ⟨by omega, rfl⟩
  obtain ⟨hrule, hfc, hcounted, hsl, hqty, hsigned, hwf⟩ : decodeRule i = decodeRegs ∧
      (i.functionCode = 0x03#8 ∨ i.functionCode = 0x04#8) ∧ countPrefixed i.functionCode = true ∧
      (callOperands i (s.loadCall i g).operands).slave = sl ∧
      (callOperands i (s.loadCall i g).operands).qty = BitVec.ofNat 16 regs.length ∧
      (callOperands i (s.loadCall i g).operands).signed = g ∧ i.wf s.cfg.wmcQtyMax = true := by
    obtain rfl | rfl := hi
    · exact ⟨rfl, .inl rfl, rfl, rfl, rfl, rfl, (wf_readHoldingRegisters _ _ _ _).2 (by omega)⟩
    · exact ⟨rfl, .inr rfl, rfl, rfl, rfl, rfl, (wf_readInputRegisters _ _ _ _).2 (by omega)⟩
  have hbytes : (packRegs regs).length ≤ 250 := by rw [packRegs_length]; omega
  have hrun := runAgenda_read (data := packRegs regs) hb hcfg hbuf hwf hcounted hsl hbytes
  rw [rspRegs_eq]
  set r := (s.loadCall i g).accepted i (rspBits sl i.functionCode (packRegs regs)) (packRegs regs)
  have hrqty : r.txn.qty = BitVec.ofNat 16 regs.length := hqty
  have hrfc : r.txn.fc = i.functionCode := callOperands_fc i _
  have hrsigned : r.txn.signed = g := hsigned
  rw [hrule, decodeRegs_ok (by rw [hrqty, hq, packRegs_length]), hrqty, hq, unpackRegs_packRegs] at hrun
  refine ⟨_, hrun, rfl, rfl, rfl, rfl, hq, fun j hj => ?_, rfl, rfl, rfl⟩
  have hread : Memory.read (Memory.writeList 0 regs r.rregs) j = regs[j] := read_writeList_getElem regs hbuf.rregs.1 hj
  have hres := completeRegs_isResult (s := r) (count := BitVec.ofNat 16 regs.length) regs (by rwa [hq]) (by rwa [hrfc])
  refine ⟨hread, (hostReadElem_rregs (s := State.withAgenda [] _) hres).trans ?_⟩
  rw [← signed_or_unsigned, ← hread, ← hrsigned]
  rfl

/-! ### The writes (R177 to R180) -/

/-- The comparison that acknowledges an echo is the comparison of its two fields (R68, R115, R116). -/
theorem echo_fields_iff (a v a' v' : Word) :
    (decide (u16be (be16 a' ++ be16 v') 0 = a) && decide (u16be (be16 a' ++ be16 v') 2 = v)) = true ↔ a' = a ∧ v' = v := by
  rw [u16be_be16, show u16be (be16 a' ++ be16 v') 2 = ofHiLo (hi8 v') (lo8 v') from rfl, ofHiLo_hi8_lo8]
  simp

/-- Settles O39: the echo passes the validator, and the decode compares its address and value. -/
theorem singleWriteTransaction : Obligations.SingleWriteTransaction := by
  intro s i g sl a v a' v' hi hb hcfg hbuf
  obtain ⟨rfl, hv⟩ | rfl := hi
  · exact ⟨_, runAgenda_write hb hcfg hbuf ((wf_writeSingleCoil _ _ _ _).2 hv) rfl rfl a' v', rfl, rfl, rfl, rfl,
      echo_fields_iff a v a' v', rfl, rfl, rfl⟩
  · exact ⟨_, runAgenda_write hb hcfg hbuf (wf_writeSingleRegister _ _ _ _) rfl rfl a' v', rfl, rfl, rfl, rfl,
      echo_fields_iff a v a' v', rfl, rfl, rfl⟩

/-- Settles O40: the echo passes the validator, and the decode compares its address and quantity. -/
theorem multipleWriteTransaction : Obligations.MultipleWriteTransaction := by
  intro s i g sl a a' q' cs rs q hi h1 hb hcfg hbuf
  obtain ⟨-, -, -, -, -, hwmc⟩ := (cfg_valid_iff _).1 hcfg
  have hquantity : q' = BitVec.ofNat 16 q ↔ q'.toNat = q := by
    rw [BitVec.toNat_eq_nat, and_iff_right (by omega)]
  have hack := (echo_fields_iff a (BitVec.ofNat 16 q) a' q').trans (and_congr_right' hquantity)
  obtain ⟨rfl, rfl, hmax⟩ | ⟨rfl, rfl, hmax⟩ := hi
  · exact ⟨_, runAgenda_write hb hcfg hbuf ((wf_writeMultipleCoils _ _ _ _).2 ⟨h1, hmax⟩) rfl rfl a' q',
      rfl, rfl, rfl, rfl, hack, rfl, rfl, rfl⟩
  · exact ⟨_, runAgenda_write hb hcfg hbuf ((wf_writeMultipleRegisters _ _ _ _).2 ⟨h1, hmax⟩) rfl rfl a' q',
      rfl, rfl, rfl, rfl, hack, rfl, rfl, rfl⟩

end Sys2Proof.Machine
end
